-- ==== Sys2Proof/Word.lean ====
section
/-! DEFINITION. The word types of the block (00_scope.md R8, 30_encoding.md R71). -/

namespace Sys2Proof

/-- An 8-bit unsigned value (00_scope.md R8). -/
abbrev Byte := BitVec 8

/-- A 16-bit unsigned value: a UPS register, a checksum. -/
abbrev Half := BitVec 16

/-- One word of the block's input stream (30_encoding.md R71): `op = w[19:16]`, `arg = w[15:0]`. -/
abbrev InputWord := BitVec 20

end Sys2Proof
end

