-- ==== Sys2Proof/Syntax.lean ====
section
/-! DEFINITION. The transactions and the instructions: one constructor of `Instr` for each row of
spec/opcode_table.json. -/

namespace Sys2Proof

/-- The seven transactions of 30_encoding.md R58. Selector 7 is reserved and has no constructor. -/
inductive Txn where
  | devinfo
  | pwrOn
  | pwrOff
  | pwrState
  | regs
  | batt
  | warn
deriving DecidableEq, Repr

/-- The rows of the opcode table. Operands keep the widths of 30_encoding.md R72, and every value of
an operand is an instruction: the rules of START, DEC_DEVREC and LINK_FAIL themselves refuse the
values they exclude (R75). The seven `txFrame…` rows are the request frames of R60, which the block
emits and never takes as input (assumption 7). -/
inductive Instr where
  /-- RESERVED_0: op `0x0`, any argument (R73). -/
  | reserved0 (arg : BitVec 16)
  /-- CRC_INIT (R83). -/
  | crcInit
  /-- CRC_FEED b (R84). -/
  | crcFeed (b : BitVec 8)
  /-- CRC_VERIFY e (R85). -/
  | crcVerify (e : BitVec 16)
  /-- START t (R90). -/
  | start (t : BitVec 3)
  /-- CLEAR (R100). -/
  | clear
  /-- DEC_PSTATE (R126). -/
  | decPstate
  /-- DEC_FIELD i (R131). -/
  | decField (i : BitVec 8)
  /-- DEC_WARN_RESTART (R136). -/
  | decWarnRestart
  /-- DEC_WARN_NEXT (R137). -/
  | decWarnNext
  /-- DEC_DEVCOUNT (R141). -/
  | decDevcount
  /-- DEC_DEVREC r, k (R142). -/
  | decDevrec (r : BitVec 8) (k : BitVec 3)
  /-- TX_DONE n (R102). -/
  | txDone (n : BitVec 4)
  /-- RX_BYTE b (R103). -/
  | rxByte (b : BitVec 8)
  /-- LINK_FAIL c (R112). -/
  | linkFail (c : BitVec 3)
  /-- RESERVED_F: op `0xF`, any argument (R73). -/
  | reservedF (arg : BitVec 16)
  /-- TX_FRAME_DEVINFO: the frame that START 0 emits (R60). -/
  | txFrameDevinfo
  /-- TX_FRAME_PWR_ON: the frame that START 1 emits (R60). -/
  | txFramePwrOn
  /-- TX_FRAME_PWR_OFF: the frame that START 2 emits (R60). -/
  | txFramePwrOff
  /-- TX_FRAME_PWR_STATE: the frame that START 3 emits (R60). -/
  | txFramePwrState
  /-- TX_FRAME_REGS: the frame that START 4 emits (R60). -/
  | txFrameRegs
  /-- TX_FRAME_BATT: the frame that START 5 emits (R60). -/
  | txFrameBatt
  /-- TX_FRAME_WARN: the frame that START 6 emits (R60). -/
  | txFrameWarn
deriving DecidableEq, Repr

end Sys2Proof
end

