-- ==== Sys2Proof/Machine/Tables.lean ====
section
/-! DEFINITION. The tables the spec fixes: the constants of 00_scope.md R7, the transaction codes of
30_encoding.md R58, the request ROM of R60 and R91, and the header tables of R68 to R70. -/

namespace Sys2Proof.Machine

/-- CRC_INIT of R7, the accumulator's initial value (41_checksum.md R81). -/
def crcInitValue : BitVec 16 := 0xFFFF#16

/-- CRC_POLY of R7, in reflected form (41_checksum.md R80). -/
def crcPoly : BitVec 16 := 0xA001#16

/-- UNIT_ID of R7: the first byte of every frame. -/
def unitId : Byte := 0x01#8

/-- WARN_BASE of R7, used off-line only (44_decoder.md R134, 90_conflicts.md C1). -/
def warnBase : Nat := 40156

/-- The smallest RXBUF_CAP of R7. -/
def rxbufCapMin : Nat := 258

/-- The largest RXBUF_CAP of R7, which is also its default. -/
def rxbufCapMax : Nat := 65543

/-- The most entries a decode ROM may have (R7). -/
def romCapacity : Nat := 256

/-- The selector of a transaction (R58). -/
def txnCode : Txn → BitVec 3
  | .devinfo => 0#3
  | .pwrOn => 1#3
  | .pwrOff => 2#3
  | .pwrState => 3#3
  | .regs => 4#3
  | .batt => 5#3
  | .warn => 6#3

/-- The transaction a selector names; 7 is reserved (R58). -/
def txnOfCode (c : BitVec 3) : Option Txn :=
  match c.toNat with
  | 0 => some .devinfo
  | 1 => some .pwrOn
  | 2 => some .pwrOff
  | 3 => some .pwrState
  | 4 => some .regs
  | 5 => some .batt
  | 6 => some .warn
  | _ => none

/-- The write transactions, txn 1 and 2 (R58). -/
def isWrite : Txn → Bool
  | .pwrOn | .pwrOff => true
  | .devinfo | .pwrState | .regs | .batt | .warn => false

/-- The read transactions, txn 3 to 6 (R58). -/
def isRead : Txn → Bool
  | .pwrState | .regs | .batt | .warn => true
  | .devinfo | .pwrOn | .pwrOff => false

/-- The request ROM REQ(t): the bytes before the checksum (R60, 42_assembler.md R91). -/
def requestRom : Txn → List Byte
  | .devinfo  => [0x01#8, 0x2B#8, 0x0E#8, 0x03#8, 0x87#8]
  | .pwrOn    => [0x01#8, 0x06#8, 0x2B#8, 0x15#8, 0x00#8, 0x01#8]
  | .pwrOff   => [0x01#8, 0x06#8, 0x2B#8, 0x16#8, 0x00#8, 0x01#8]
  | .pwrState => [0x01#8, 0x03#8, 0x2B#8, 0x14#8, 0x00#8, 0x01#8]
  | .regs     => [0x01#8, 0x03#8, 0x2A#8, 0xF8#8, 0x00#8, 0x2B#8]
  | .batt     => [0x01#8, 0x03#8, 0x2E#8, 0xE0#8, 0x00#8, 0x21#8]
  | .warn     => [0x01#8, 0x03#8, 0xA0#8, 0xDC#8, 0x00#8, 0x1A#8]

/-- HDR_LEN(t), which is also BODY_BASE(t) (R68). -/
def hdrLen : Txn → Nat
  | .devinfo | .pwrOn | .pwrOff => 8
  | .pwrState | .regs | .batt | .warn => 3

/-- The fixed header prefix of the identity response (R64, R69). -/
def identityPrefix : List Byte := [0x01#8, 0x2B#8, 0x0E#8, 0x03#8, 0x03#8]

/-- The fixed header prefix of a register-read response (R65, R69). -/
def readPrefix : List Byte := [0x01#8, 0x03#8]

/-- The register count of a read request (R70); 0 for a transaction that reads no registers. -/
def registerCount : Txn → Nat
  | .pwrState => 1
  | .regs => 43
  | .batt => 33
  | .warn => 26
  | .devinfo | .pwrOn | .pwrOff => 0

/-- EXP_LEN(t) = 2 × count, in bytes (R70). -/
def expLen (t : Txn) : Nat := 2 * registerCount t

/-- The id of the device-count object (R67). -/
def devcountId : Byte := 0x87#8

/-- The divisor that a scale code selects (44_decoder.md R128, R130). -/
def divisor (scale : BitVec 2) : BitVec 16 :=
  match scale.toNat with
  | 0 => 1#16
  | 1 => 10#16
  | 2 => 100#16
  | _ => 1000#16

end Sys2Proof.Machine
end

