-- ==== Sys2Proof/Machine/Crc16.lean ====
section
/-! DEFINITION. The CRC-16/ModBus function (41_checksum.md R80 to R82). -/

namespace Sys2Proof.Machine

/-- One of the eight shifts of R80: shift right by one bit, and XOR with the polynomial when the bit
shifted out is 1. -/
def crcShift (c : BitVec 16) : BitVec 16 :=
  if c.getLsbD 0 then (c >>> 1) ^^^ crcPoly else c >>> 1

/-- `n` shifts. -/
def crcShifts : Nat → BitVec 16 → BitVec 16
  | 0, c => c
  | n + 1, c => crcShifts n (crcShift c)

/-- `crc_step(c, b)` (R80). -/
def crcStep (c : BitVec 16) (b : Byte) : BitVec 16 :=
  crcShifts 8 (c ^^^ b.setWidth 16)

/-- `crc16(bs)` (R81). -/
def crc16 (bs : List Byte) : BitVec 16 :=
  bs.foldl crcStep crcInitValue

/-- `verify(bs, e)` (R82). -/
def crcVerify (bs : List Byte) (e : BitVec 16) : Bool :=
  crc16 bs == e

end Sys2Proof.Machine
end

