-- ==== Sys2Proof/Config.lean ====
section
/-! DEFINITION. What an implementation of the block fixes (00_scope.md R7, 10_state.md R44): the RX
buffer's capacity and the three decode ROMs, as words and as entries, the opaque ROM contents
that the spec leaves OPEN, and the free values. -/

namespace Sys2Proof

/-- How a field entry's slot is read (44_decoder.md R128). A BIT entry has no scale and only a BIT
entry has a bit position, as R129 demands of a well-formed entry; the reserved kind 3 has no
constructor. -/
inductive FieldKind where
  /-- A 2-byte unsigned slot with its divisor code. -/
  | u16 (scale : BitVec 2)
  /-- A 4-byte unsigned slot with its divisor code. -/
  | u32 (scale : BitVec 2)
  /-- One flag of a 2-byte word, at this `msb0` position (R9). -/
  | bit (pos : BitVec 4)
deriving DecidableEq, Repr

/-- An entry of REG_ROM or BATT_ROM (44_decoder.md R128). -/
structure FieldEntry where
  /-- The quantity's identifier, opaque to the block. -/
  fid : BitVec 16
  /-- The slot's byte offset in the body (20_memory.md R47). -/
  off : BitVec 8
  kind : FieldKind
deriving DecidableEq, Repr

/-- An entry of WARN_ROM (44_decoder.md R134). -/
structure WarnEntry where
  /-- The warning id, reported. -/
  wid : BitVec 16
  /-- The reason id, reported. -/
  rid : BitVec 16
  /-- The 16-bit word's byte offset in the body. -/
  off : BitVec 8
  /-- The flag's `msb0` position in the word (R9). -/
  bit : BitVec 4
deriving DecidableEq, Repr

/-- The decoded parameters of R7, before any check. -/
structure ConfigData where
  /-- RXBUF_CAP. -/
  rxbufCap : Nat
  /-- REG_ROM. -/
  regRom : List FieldEntry
  /-- BATT_ROM. -/
  battRom : List FieldEntry
  /-- WARN_ROM. -/
  warnRom : List WarnEntry
deriving DecidableEq, Repr

/-- The parameters as an integrator supplies them (R163): ROM entries are words of 32 and 48 bits. -/
structure ConfigImage where
  rxbufCap : Nat
  regRom : List (BitVec 32)
  battRom : List (BitVec 32)
  warnRom : List (BitVec 48)
deriving DecidableEq, Repr

/-- REG_ROM's words in this implementation: OPEN (R7, I-REG-ROM), so nothing says what they are. -/
opaque Config.regRomWords : List (BitVec 32)

/-- BATT_ROM's words in this implementation: OPEN (R7, I-BATT-ROM). -/
opaque Config.battRomWords : List (BitVec 32)

/-- WARN_ROM's words in this implementation: OPEN (R7, I-WARN-ROM). -/
opaque Config.warnRomWords : List (BitVec 48)

/-- Where a record's absent key would lie: a free value. 44_decoder.md R142 relies on the key's presence
(R144), which only states that no run reaches lack (assumption 10). -/
opaque Config.absentFieldStart (recordStart recordLen : Nat) (key : BitVec 3) : BitVec 32

/-- The length that goes with `Config.absentFieldStart`: a free value. -/
opaque Config.absentFieldLength (recordStart recordLen : Nat) (key : BitVec 3) : BitVec 16

end Sys2Proof
end

