-- ==== Sys2Proof/WellFormed.lean ====
section
/-! DEFINITION. What is well-formed: an instruction's operand values (30_encoding.md R75), a decode
ROM's entries and the configuration (44_decoder.md R129, R135, 70_reset_and_hazards.md R163). -/

namespace Sys2Proof

open Machine

/-- The instruction is none of those refused ILLEGAL for their op or an operand's value (R73, R75,
R147). An ill-formed instruction still decodes and runs: its own rule refuses it. -/
def Instr.wellFormed : Instr → Bool
  | .reserved0 _ => false
  | .reservedF _ => false
  | .start t => t != 7#3
  | .decDevrec _ k => k != 0#3 && k != 7#3
  | .linkFail c => c == 1#3 || c == 3#3 || c == 4#3
  | .crcInit => true
  | .crcFeed _ => true
  | .crcVerify _ => true
  | .clear => true
  | .decPstate => true
  | .decField _ => true
  | .decWarnRestart => true
  | .decWarnNext => true
  | .decDevcount => true
  | .txDone _ => true
  | .rxByte _ => true
  | .txFrameDevinfo => true
  | .txFramePwrOn => true
  | .txFramePwrOff => true
  | .txFramePwrState => true
  | .txFrameRegs => true
  | .txFrameBatt => true
  | .txFrameWarn => true

/-- The bytes of a field entry's slot (R129). -/
def FieldKind.width : FieldKind → Nat
  | .u16 _ => 2
  | .u32 _ => 4
  | .bit _ => 2

/-- The slot ends inside a body of `bodyLen` bytes (R129). -/
def FieldEntry.wellFormed (bodyLen : Nat) (e : FieldEntry) : Bool :=
  decide (e.off.toNat + e.kind.width ≤ bodyLen)

/-- The word ends inside the warning table (R135). -/
def WarnEntry.wellFormed (e : WarnEntry) : Bool :=
  decide (e.off.toNat + 2 ≤ expLen .warn)

/-- A field ROM of at most 256 entries, each inside the table (R129). -/
def fieldRomWellFormed (bodyLen : Nat) (rom : List FieldEntry) : Bool :=
  decide (rom.length ≤ romCapacity) && rom.all (FieldEntry.wellFormed bodyLen)

/-- A warning ROM of at most 256 entries, each inside the table (R135). -/
def warnRomWellFormed (rom : List WarnEntry) : Bool :=
  decide (rom.length ≤ romCapacity) && rom.all WarnEntry.wellFormed

/-- Every check that R163 makes of a configuration. -/
def ConfigData.wellFormed (d : ConfigData) : Bool :=
  decide (rxbufCapMin ≤ d.rxbufCap) && decide (d.rxbufCap ≤ rxbufCapMax)
    && fieldRomWellFormed (expLen .regs) d.regRom
    && fieldRomWellFormed (expLen .batt) d.battRom
    && warnRomWellFormed d.warnRom

/-- A configuration that passed its checks. A value of this type cannot be ill-formed, which is how
the model refuses an ill-formed configuration without a run-time check (R129, R135, assumption 5). -/
structure Config extends ConfigData where
  wf : toConfigData.wellFormed = true
deriving DecidableEq, Repr

end Sys2Proof
end

