-- ==== Sys2Proof/Machine/Roms.lean ====
section
/-! DEFINITION. The decode ROMs' word formats (44_decoder.md R128, R134), the loading of a configuration
(70_reset_and_hazards.md R163) and the off-line construction of a warning entry (R134). -/

namespace Sys2Proof.Machine

/-- The kind a field word's bits 7:6, 5:4 and 3:0 describe; none for the reserved kind 3 and for a
scale or a bit position where R129 wants 0. -/
def fieldKindOfBits (kind scale : BitVec 2) (bit : BitVec 4) : Option FieldKind :=
  match kind.toNat with
  | 0 => if bit = 0#4 then some (.u16 scale) else none
  | 1 => if bit = 0#4 then some (.u32 scale) else none
  | 2 => if scale = 0#2 then some (.bit bit) else none
  | _ => none

/-- Read a field entry from its 32-bit word (R128). -/
def fieldEntryOfWord (w : BitVec 32) : Option FieldEntry :=
  (fieldKindOfBits (w.extractLsb' 6 2) (w.extractLsb' 4 2) (w.extractLsb' 0 4)).map fun kind =>
    { fid := w.extractLsb' 16 16, off := w.extractLsb' 8 8, kind := kind }

/-- The bits 7:0 of a field entry's word (R128). -/
def fieldKindBits : FieldKind → BitVec 8
  | .u16 scale => 0#2 ++ scale ++ 0#4
  | .u32 scale => 1#2 ++ scale ++ 0#4
  | .bit pos => 2#2 ++ 0#2 ++ pos

/-- The 32-bit word of a field entry (R128). -/
def fieldEntryWord (e : FieldEntry) : BitVec 32 :=
  e.fid ++ e.off ++ fieldKindBits e.kind

/-- Read a warning entry from its 48-bit word; none where bits 7:4 are not 0 (R134, R135). -/
def warnEntryOfWord (w : BitVec 48) : Option WarnEntry :=
  if w.extractLsb' 4 4 = 0#4 then
    some { wid := w.extractLsb' 32 16, rid := w.extractLsb' 16 16,
           off := w.extractLsb' 8 8, bit := w.extractLsb' 0 4 }
  else none

/-- The 48-bit word of a warning entry (R134). -/
def warnEntryWord (e : WarnEntry) : BitVec 48 :=
  e.wid ++ e.rid ++ e.off ++ 0#4 ++ e.bit

/-- The warning entry that the off-line construction of R134 makes of an absolute register address, a
bit, two ids and whether the entry is the one with the adjustment of 4 bytes; none where the address
lies below WARN_BASE or the entry would not be well-formed (20_memory.md R48, R135, assumption 12). -/
def buildWarnEntry (addr : Nat) (bit : BitVec 4) (wid rid : BitVec 16) (adjusted : Bool) :
    Option WarnEntry :=
  let off := (addr - warnBase) * 2 + if adjusted then 4 else 0
  if warnBase ≤ addr ∧ off + 2 ≤ expLen .warn then
    some { wid := wid, rid := rid, off := BitVec.ofNat 8 off, bit := bit }
  else none

/-- Read every entry of an image; none where one cannot be read. -/
def configDataOfImage (img : ConfigImage) : Option ConfigData := do
  let regRom ← img.regRom.mapM fieldEntryOfWord
  let battRom ← img.battRom.mapM fieldEntryOfWord
  let warnRom ← img.warnRom.mapM warnEntryOfWord
  return { rxbufCap := img.rxbufCap, regRom := regRom, battRom := battRom, warnRom := warnRom }

/-- Load a configuration; none where it is ill-formed (R129, R135, R163). -/
def loadConfig (img : ConfigImage) : Option Config :=
  match configDataOfImage img with
  | some d => if h : d.wellFormed = true then some { d with wf := h } else none
  | none => none

/-- A ROM of field words that is well-formed, or the empty ROM. -/
def fieldRomOr (bodyLen : Nat) (words : List (BitVec 32)) : List FieldEntry :=
  match words.mapM fieldEntryOfWord with
  | some rom => if fieldRomWellFormed bodyLen rom then rom else []
  | none => []

/-- A ROM of warning words that is well-formed, or the empty ROM. -/
def warnRomOr (words : List (BitVec 48)) : List WarnEntry :=
  match words.mapM warnEntryOfWord with
  | some rom => if warnRomWellFormed rom then rom else []
  | none => []

theorem fieldRomOr_wellFormed (bodyLen : Nat) (words : List (BitVec 32)) :
    fieldRomWellFormed bodyLen (fieldRomOr bodyLen words) = true := by
  unfold fieldRomOr
  split
  · split
    · assumption
    · rfl
  · rfl

theorem warnRomOr_wellFormed (words : List (BitVec 48)) :
    warnRomWellFormed (warnRomOr words) = true := by
  unfold warnRomOr
  split
  · split
    · assumption
    · rfl
  · rfl

/-- The configuration a block has when nothing else is loaded: RXBUF_CAP at the spec's default (R7)
and the ROMs that the OPEN constants of Config hold, of which nothing is known but that they are
well-formed (assumption 4). -/
def boardConfig : Config where
  rxbufCap := rxbufCapMax
  regRom := fieldRomOr (expLen .regs) Config.regRomWords
  battRom := fieldRomOr (expLen .batt) Config.battRomWords
  warnRom := warnRomOr Config.warnRomWords
  wf := by
    simp [ConfigData.wellFormed, fieldRomOr_wellFormed, warnRomOr_wellFormed, rxbufCapMin,
      rxbufCapMax]

end Sys2Proof.Machine
end

