-- ==== Sys2Proof/Machine/State.lean ====
section
/-! DEFINITION. The state of the block (10_state.md R15), the reasons a step can stop, and the state
right after reset (70_reset_and_hazards.md R160). -/

namespace Sys2Proof.Machine

/-- The parser FSM states of 10_state.md R17. Code 7 is never reached and has no constructor
(assumption 9). -/
inductive Fsm where
  | idle
  | sent
  | awaitingHeader
  | awaitingBody
  | awaitingChecksum
  | complete
  | failed
deriving DecidableEq, Repr

/-- The TLV sub-phases of R30; 3 is never written (assumption 9). -/
inductive TlvPhase where
  | id
  | len
  | val
deriving DecidableEq, Repr

/-- The failure kinds of R34; 5 to 7 are never written (assumption 9). -/
inductive ErrKind where
  | none
  | transport
  | protocolMismatch
  | checksum
  | decode
deriving DecidableEq, Repr

/-- The result codes of an input word, R36 and R147; 7 is never written (assumption 9). -/
inductive CmdErr where
  | ok
  | illegal
  | busy
  | notComplete
  | wrongTxn
  | range
  | unexpected
deriving DecidableEq, Repr

/-- The output events of 60_exceptions.md R152. -/
inductive Event where
  /-- The whole request frame, in wire order (42_assembler.md R93). -/
  | txFrame (bytes : List Byte)
  /-- Entry into Complete or Failed (43_parser.md R123, 60_exceptions.md R148). -/
  | close
deriving DecidableEq, Repr

/-- What the block takes in one step: an input word, or the RESET input, which is no word
(00_scope.md R12). -/
inductive Input where
  | word (w : InputWord)
  | reset
deriving DecidableEq, Repr

/-- A byte memory: (index, byte) pairs in the canonical form of `Memory.wf`. -/
abbrev Memory := List Host.Cell

/-- The whole state. The registers are those of 10_state.md R15, under their own names; the last three
fields are the model's (assumptions 1, 3 and 4). -/
structure State where
  /-- `st` (R17). -/
  st : Fsm
  /-- `txn` (R18). -/
  txn : Txn
  /-- `gen_crc`, the generator accumulator (R19). -/
  genCrc : BitVec 16
  /-- `crc_ok` (R20). -/
  crcOk : Bool
  /-- `tx_buf[0..7]`, the request frame (R21). -/
  txBuf : Vector Byte 8
  /-- `tx_len` (R22). -/
  txLen : BitVec 4
  /-- `chk_crc`, the verifier accumulator (R23). -/
  chkCrc : BitVec 16
  /-- `rx_buf`, the received header and body bytes (R24). -/
  rxBuf : Memory
  /-- `rx_len` (R25). -/
  rxLen : BitVec 17
  /-- `decl`, the declared count (R26). -/
  decl : BitVec 8
  /-- `hdr_idx` (R27). -/
  hdrIdx : BitVec 3
  /-- `body_rem` (R28). -/
  bodyRem : BitVec 8
  /-- `obj_rem` (R29). -/
  objRem : BitVec 8
  /-- `tlv_ph` (R30). -/
  tlvPh : TlvPhase
  /-- `val_rem` (R31). -/
  valRem : BitVec 8
  /-- `cs_idx`: true for 1, after the first trailer byte (R32). -/
  csIdx : Bool
  /-- `rx_cs`, the received trailer (R32). -/
  rxCs : BitVec 16
  /-- `ovf` (R33). -/
  ovf : Bool
  /-- `err_kind` (R34). -/
  errKind : ErrKind
  /-- `err_cause`, a code of R34 that depends on `err_kind`. -/
  errCause : BitVec 3
  /-- `err_state`, the `st` at the failure; Idle, code 0, when there is none (R34). -/
  errState : Fsm
  /-- `stray` (R35). -/
  stray : Bool
  /-- `cmd_err` (R36). -/
  cmdErr : CmdErr
  /-- `dout` (R42). -/
  dout : BitVec 32
  /-- `daux` (R42). -/
  daux : BitVec 16
  /-- `dvalid` (R42). -/
  dvalid : Bool
  /-- `dend` (R42). -/
  dend : Bool
  /-- `warn_ptr` (R43). -/
  warnPtr : BitVec 9
  /-- The configuration, an argument of the block's step (R44); no step writes it. -/
  cfg : Config
  /-- The inputs not yet taken, next first (00_scope.md R12, 20_memory.md R57). -/
  input : List Input
  /-- The output events emitted so far, oldest first (00_scope.md R12). -/
  events : List Event
deriving DecidableEq, Repr

/-- Why a step stops with a fault: never. The spec's step is total, every state and every word has
exactly one result (00_scope.md R12), and the block has no trap (60_exceptions.md R146 to R148), so this
type has no constructor. Safe. -/
inductive Fault where
deriving DecidableEq, Repr

/-- Why the model refuses. -/
inductive Refusal where
  /-- Raised by an arm of exec whose instruction has no meaning yet. Safe. -/
  | notModelled (mnemonic : String)
  /-- Raised by `State.configure`, and by no instruction, for a configuration that breaks 44_decoder.md
  R129 or R135 or the bounds of 00_scope.md R7: the spec has the model refuse it. Safe. -/
  | illFormedConfiguration
deriving DecidableEq, Repr

/-- The answer of a step. -/
abbrev Answer := Host.Outcome State Fault Refusal

/-- The machine right after reset (70_reset_and_hazards.md R160). Nothing is listed in `rx_buf`, whose
contents the spec leaves unspecified (assumption 6); the model's own fields are as assumptions 1, 3
and 4 say. -/
def State.reset : State where
  st := .idle
  txn := .devinfo
  genCrc := 0xFFFF#16
  crcOk := false
  txBuf := #v[0#8, 0#8, 0#8, 0#8, 0#8, 0#8, 0#8, 0#8]
  txLen := 0#4
  chkCrc := 0xFFFF#16
  rxBuf := []
  rxLen := 0#17
  decl := 0#8
  hdrIdx := 0#3
  bodyRem := 0#8
  objRem := 0#8
  tlvPh := .id
  valRem := 0#8
  csIdx := false
  rxCs := 0#16
  ovf := false
  errKind := .none
  errCause := 0#3
  errState := .idle
  stray := false
  cmdErr := .ok
  dout := 0#32
  daux := 0#16
  dvalid := false
  dend := false
  warnPtr := 0#9
  cfg := boardConfig
  input := []
  events := []

end Sys2Proof.Machine
end

