-- ==== Sys2Proof/Machine/Operands.lean ====
section
/-! DEFINITION. How bytes are stored, read and put together: the RX buffer's memory (10_state.md R24),
the multi-byte fields of 00_scope.md R11, and the codes of the typed registers. -/

namespace Sys2Proof.Machine

/-- What an index that the memory does not list reads as: the spec leaves the byte open and never lets
it be observed (10_state.md R24, I-RXBUF-RESET, assumption 6). -/
def unlistedByte : Byte := 0x00#8

/-- The byte at an index. -/
def Memory.read : Memory → Nat → Byte
  | [], _ => unlistedByte
  | (a, b) :: m, i => if a = i then b else Memory.read m i

/-- The cell to list for a byte at an index: none for a byte that an unlisted index reads as. -/
def cellFor (i : Nat) (b : Byte) : Memory :=
  if b = unlistedByte then [] else [(i, b)]

/-- Store a byte at an index, keeping the canonical form. -/
def Memory.write : Memory → Nat → Byte → Memory
  | [], i, b => cellFor i b
  | (a, c) :: m, i, b =>
    if i < a then cellFor i b ++ (a, c) :: m
    else if i = a then cellFor i b ++ m
    else (a, c) :: Memory.write m i b

/-- The canonical form: indices strictly rising from at least `lo`, and no listed byte equal to the
unlisted one. -/
def Memory.wfFrom : Nat → Memory → Bool
  | _, [] => true
  | lo, (a, b) :: m => decide (lo ≤ a) && b != unlistedByte && Memory.wfFrom (a + 1) m

/-- The canonical form of a memory: equal memories are equal lists. -/
def Memory.wf (m : Memory) : Bool := Memory.wfFrom 0 m

/-- The `n` bytes from index `i` on, in order. -/
def Memory.bytes (m : Memory) : Nat → Nat → List Byte
  | _, 0 => []
  | i, n + 1 => m.read i :: Memory.bytes m (i + 1) n

/-- `be16(rx_buf, i)` (00_scope.md R11): the high byte first. -/
def Memory.be16 (m : Memory) (i : Nat) : BitVec 16 :=
  m.read i ++ m.read (i + 1)

/-- `be32(rx_buf, i)` (00_scope.md R11). -/
def Memory.be32 (m : Memory) (i : Nat) : BitVec 32 :=
  m.read i ++ m.read (i + 1) ++ m.read (i + 2) ++ m.read (i + 3)

/-- `hi8(v)` (00_scope.md R11). -/
def hi8 (v : BitVec 16) : Byte := v.extractLsb' 8 8

/-- `lo8(v)` (00_scope.md R11). -/
def lo8 (v : BitVec 16) : Byte := v.extractLsb' 0 8

/-- The two bytes of a checksum in wire order, the low byte first (20_memory.md R49). -/
def checksumBytes (v : BitVec 16) : List Byte := [lo8 v, hi8 v]

/-- The 16-bit word with this high and this low byte. -/
def halfOf (hi lo : Byte) : BitVec 16 := hi ++ lo

/-- The bytes `bs` written over the front of the TX buffer; the rest is kept (42_assembler.md R90). -/
def overwriteTx (buf : Vector Byte 8) (bs : List Byte) : Vector Byte 8 :=
  Vector.ofFn fun i => (bs[i.val]?).getD buf[i]

/-- The code of an FSM state (10_state.md R17). -/
def fsmCode : Fsm → BitVec 3
  | .idle => 0#3
  | .sent => 1#3
  | .awaitingHeader => 2#3
  | .awaitingBody => 3#3
  | .awaitingChecksum => 4#3
  | .complete => 5#3
  | .failed => 6#3

/-- The code of a TLV sub-phase (10_state.md R30). -/
def tlvPhaseCode : TlvPhase → BitVec 2
  | .id => 0#2
  | .len => 1#2
  | .val => 2#2

/-- The code of a failure kind (10_state.md R34). -/
def errKindCode : ErrKind → BitVec 3
  | .none => 0#3
  | .transport => 1#3
  | .protocolMismatch => 2#3
  | .checksum => 3#3
  | .decode => 4#3

/-- The code of a word's result (10_state.md R36). -/
def cmdErrCode : CmdErr → BitVec 3
  | .ok => 0#3
  | .illegal => 1#3
  | .busy => 2#3
  | .notComplete => 3#3
  | .wrongTxn => 4#3
  | .range => 5#3
  | .unexpected => 6#3

/-- The TRANSPORT causes of 60_exceptions.md R146. -/
def causeShortWrite : BitVec 3 := 2#3

/-- LINK_FAIL's operand is a TRANSPORT cause: 1 CONNECT, 3 CLOSED, 4 TIMEOUT (43_parser.md R112). -/
def isLinkCause (c : BitVec 3) : Bool := c == 1#3 || c == 3#3 || c == 4#3

/-- The DECODE causes of 60_exceptions.md R146. -/
def causeLength : BitVec 3 := 1#3

/-- See `causeLength`. -/
def causeDevcountLen : BitVec 3 := 2#3

/-- See `causeLength`. -/
def causeMissingKey : BitVec 3 := 3#3

/-- See `causeLength`. -/
def causeOverflow : BitVec 3 := 4#3

/-- PROTOCOL_MISMATCH and CHECKSUM have no sub-cause (10_state.md R34). -/
def causeNone : BitVec 3 := 0#3

end Sys2Proof.Machine
end

