-- ==== Sys2Proof/Machine/Flags.lean ====
section
/-! DEFINITION. The one-bit and small-code results that instructions compute or test. -/

namespace Sys2Proof.Machine

/-- The active states: Sent, AwaitingHeader, AwaitingBody, AwaitingChecksum (10_state.md R17). This is
also the BUSY level of R38. -/
def Fsm.active : Fsm → Bool
  | .sent | .awaitingHeader | .awaitingBody | .awaitingChecksum => true
  | .idle | .complete | .failed => false

/-- The terminal states: Complete and Failed (10_state.md R17). This is also the DONE level of R38. -/
def Fsm.terminal : Fsm → Bool
  | .complete | .failed => true
  | .idle | .sent | .awaitingHeader | .awaitingBody | .awaitingChecksum => false

/-- `crc_ok` after CRC_VERIFY e (41_checksum.md R85). -/
def crcOkFlag (genCrc e : BitVec 16) : Bool := genCrc == e

/-- Bit `msb0 p` of a 16-bit word: `w[15 - p]` (00_scope.md R9). -/
def msb0Bit (w : BitVec 16) (p : BitVec 4) : Bool := w.getLsbD (15 - p.toNat)

/-- The power-state class of a value (44_decoder.md R127); 4 is "unknown". -/
def powerClass (v : BitVec 16) : BitVec 16 := if v.toNat < 4 then v else 4#16

/-- A byte at index `rx_len` does not fit the RX buffer (43_parser.md R104). -/
def rxFull (s : State) : Bool := decide (s.cfg.rxbufCap ≤ s.rxLen.toNat)

/-- HDR_OK(txn, h) for the whole received header h (30_encoding.md R69). -/
def headerOk (t : Txn) (txBuf : Vector Byte 8) (h : List Byte) : Bool :=
  match t with
  | .devinfo => h.take 5 == identityPrefix
  | .pwrOn | .pwrOff => h == txBuf.toList
  | .pwrState | .regs | .batt | .warn => h.take 2 == readPrefix

/-- WBIT(e), the test of one warning's bit (44_decoder.md R139). -/
def warnBit (m : Memory) (e : WarnEntry) : Bool :=
  msb0Bit (m.be16 (3 + e.off.toNat)) e.bit

end Sys2Proof.Machine
end

