-- ==== Sys2Proof/Machine/Objects.lean ====
section
/-! DEFINITION. The identity body: its TLV objects (43_parser.md R118), the device records among them and
their key/value strings (44_decoder.md R140, R143, R144), and the decode check (43_parser.md R117). -/

namespace Sys2Proof.Machine

/-- A stretch of `rx_buf`: its first index and its length. -/
structure Slice where
  start : Nat
  len : Nat
deriving DecidableEq, Repr

/-- A TLV object (30_encoding.md R67): its id and where its value lies. -/
structure TlvObject where
  id : Byte
  value : Slice
deriving DecidableEq, Repr

/-- The walk of OBJS() over `n` objects from index `p` on (43_parser.md R118). -/
def objectsFrom (m : Memory) : Nat → Nat → List TlvObject
  | _, 0 => []
  | p, n + 1 =>
    let len := (m.read (p + 1)).toNat
    { id := m.read p, value := { start := p + 2, len := len } } :: objectsFrom m (p + 2 + len) n

/-- OBJS(): the `decl` objects from index 8 on (43_parser.md R118). -/
def objects (m : Memory) (decl : BitVec 8) : List TlvObject :=
  objectsFrom m 8 decl.toNat

/-- The object is a device count, not a record (30_encoding.md R67). -/
def TlvObject.isCount (o : TlvObject) : Bool := o.id == devcountId

/-- RECS: the value slices of the records, in order (44_decoder.md R140). -/
def records (os : List TlvObject) : List Slice :=
  (os.filter fun o => !o.isCount).map TlvObject.value

/-- The device-count objects, in order. -/
def countObjects (os : List TlvObject) : List TlvObject := os.filter TlvObject.isCount

/-- PRESENT: some object has id 0x87 (44_decoder.md R140). -/
def countPresent (os : List TlvObject) : Bool := os.any TlvObject.isCount

/-- COUNT: the value of the last object with id 0x87, or 0 (44_decoder.md R140). -/
def deviceCount (m : Memory) (os : List TlvObject) : BitVec 16 :=
  match (countObjects os).getLast? with
  | some o => m.be16 o.value.start
  | none => 0#16

/-- The ASCII byte `;` (44_decoder.md R143). -/
def semicolon : Byte := 0x3B#8

/-- The ASCII byte `=` (44_decoder.md R143). -/
def equalsSign : Byte := 0x3D#8

/-- Split the `n` bytes at `pos` at every `;` (44_decoder.md R143); `start` is where the segment under
way began. A value with no `;` is one segment. -/
def segmentsFrom (m : Memory) (start : Nat) : Nat → Nat → List Slice
  | pos, 0 => [{ start := start, len := pos - start }]
  | pos, n + 1 =>
    if m.read pos = semicolon then
      { start := start, len := pos - start } :: segmentsFrom m (pos + 1) (pos + 1) n
    else segmentsFrom m start (pos + 1) n

/-- The segments of a record's value (44_decoder.md R143). -/
def segments (m : Memory) (v : Slice) : List Slice := segmentsFrom m v.start v.start v.len

/-- The distance from `pos` to the first `=` among `n` bytes, or none. -/
def firstEquals (m : Memory) : Nat → Nat → Option Nat
  | _, 0 => none
  | pos, n + 1 =>
    if m.read pos = equalsSign then some 0 else (firstEquals m (pos + 1) n).map (· + 1)

/-- The key that a byte names: an ASCII digit 1 to 6 (44_decoder.md R143). -/
def keyOfByte (b : Byte) : Option (BitVec 3) :=
  if 0x31#8 ≤ b ∧ b ≤ 0x36#8 then some ((b - 0x30#8).setWidth 3) else none

/-- What a segment contributes to the record's map: a key and its value's slice, or nothing
(44_decoder.md R143). -/
def segmentEntry (m : Memory) (seg : Slice) : Option (BitVec 3 × Slice) :=
  match firstEquals m seg.start seg.len with
  | some 1 => (keyOfByte (m.read seg.start)).map fun k => (k, ⟨seg.start + 2, seg.len - 2⟩)
  | _ => none

/-- PARSE_REC: the record's keys and their slices, in the order of the segments (44_decoder.md R143). -/
def parseRecord (m : Memory) (v : Slice) : List (BitVec 3 × Slice) :=
  (segments m v).filterMap (segmentEntry m)

/-- PARSE_REC(v)[k]: a later segment overrides an earlier one (44_decoder.md R143). -/
def recordField (m : Memory) (v : Slice) (k : BitVec 3) : Option Slice :=
  ((parseRecord m v).reverse.find? fun e => e.1 == k).map Prod.snd

/-- The six keys of a record (44_decoder.md R142). -/
def recordKeys : List (BitVec 3) := [1#3, 2#3, 3#3, 4#3, 5#3, 6#3]

/-- REC_OK: all six keys are present (44_decoder.md R144). -/
def recordOk (m : Memory) (v : Slice) : Bool :=
  recordKeys.all fun k => (recordField m v k).isSome

/-- The DECODE cause of one object, if it fails the check (43_parser.md R117). -/
def objectFault (m : Memory) (o : TlvObject) : Option (BitVec 3) :=
  if o.isCount then (if o.value.len = 2 then none else some causeDevcountLen)
  else if recordOk m o.value then none else some causeMissingKey

/-- DCHK(txn) (43_parser.md R117): the DECODE cause, none for 0. Overflow comes first, then the length of
a register read, or the first failing object in wire order (60_exceptions.md R150). For a write
transaction, which never gets here, nothing but an overflow is a cause (assumption 10). -/
def decodeCheck (s : State) : Option (BitVec 3) :=
  if s.ovf then some causeOverflow
  else match s.txn with
    | .pwrState | .regs | .batt | .warn =>
      if s.decl.toNat = expLen s.txn then none else some causeLength
    | .devinfo => (objects s.rxBuf s.decl).findSome? (objectFault s.rxBuf)
    | .pwrOn | .pwrOff => none

end Sys2Proof.Machine
end

