-- ==== Sys2Proof/Machine/Ops.lean ====
section
/-! DEFINITION. The operations on the state that the instructions share: refusing a word, noting an
unexpected event, failing a transaction (the block's only exception entry) and completing it, taking a
received byte, clearing and starting a transaction, writing the decoder outputs. -/

namespace Sys2Proof.Machine

/-- `refuse(code)`: only `cmd_err` is written (00_scope.md R13, 60_exceptions.md R147). -/
def State.refuse (s : State) (code : CmdErr) : State :=
  { s with cmdErr := code }

/-- `unexpected()` (43_parser.md R114). -/
def State.noteUnexpected (s : State) : State :=
  { s with stray := true, cmdErr := .unexpected }

/-- `fail(kind, cause)`, the failure entry (60_exceptions.md R148): the failure record is written with
the state the step started in, `st` becomes Failed and `close` is emitted. -/
def State.fail (s : State) (kind : ErrKind) (cause : BitVec 3) : State :=
  { s with
    errKind := kind
    errCause := cause
    errState := s.st
    st := .failed
    cmdErr := .ok
    events := s.events ++ [.close] }

/-- `enter_complete()` (43_parser.md R123). -/
def State.enterComplete (s : State) : State :=
  { s with
    st := .complete
    warnPtr := 0#9
    cmdErr := .ok
    events := s.events ++ [.close] }

/-- The registers of a transaction at their starting values, as START and CLEAR set them
(42_assembler.md R90, 43_parser.md R100). This, with CLEAR's or START's own writes, is the return from
a failure (60_exceptions.md R149). -/
def State.clearTransaction (s : State) : State :=
  { s with
    chkCrc := crcInitValue
    rxLen := 0#17
    decl := 0#8
    hdrIdx := 0#3
    bodyRem := 0#8
    objRem := 0#8
    tlvPh := .id
    valRem := 0#8
    csIdx := false
    rxCs := 0#16
    ovf := false
    errKind := .none
    errCause := 0#3
    errState := .idle
    stray := false
    dout := 0#32
    daux := 0#16
    dvalid := false
    dend := false
    warnPtr := 0#9 }

/-- The request frame in the TX buffer: `tx_buf[0..tx_len)` (10_state.md R21). -/
def State.txFrame (s : State) : List Byte := s.txBuf.toList.take s.txLen.toNat

/-- The whole request frame of a transaction: its ROM entry and the checksum (30_encoding.md R59,
42_assembler.md R92). -/
def requestFrame (t : Txn) : List Byte :=
  requestRom t ++ checksumBytes (crc16 (requestRom t))

/-- What an accepted START writes before it emits the frame (42_assembler.md R90). -/
def State.assemble (s : State) (t : Txn) : State :=
  { s.clearTransaction with
    txn := t
    txBuf := overwriteTx s.txBuf (requestFrame t)
    txLen := BitVec.ofNat 4 ((requestRom t).length + 2)
    genCrc := crc16 (requestRom t)
    st := .sent
    cmdErr := .ok }

/-- Emit `tx_frame(tx_buf[0..tx_len))` (42_assembler.md R93). -/
def State.emitFrame (s : State) : State :=
  { s with events := s.events ++ [.txFrame s.txFrame] }

/-- START of transaction `t` past its operand check: refused BUSY in an active state, else the whole
effect of 42_assembler.md R90. -/
def State.startTransaction (s : State) (t : Txn) : State :=
  if s.st.active then s.refuse .busy else (s.assemble t).emitFrame

/-- `accept(b)`: take a header or body byte (43_parser.md R104); `rx_len` wraps in states that no run
reaches (assumption 11). -/
def State.acceptByte (s : State) (b : Byte) : State :=
  { s with
    rxBuf := if rxFull s then s.rxBuf else s.rxBuf.write s.rxLen.toNat b
    ovf := rxFull s || s.ovf
    rxLen := s.rxLen + 1#17
    chkCrc := crcStep s.chkCrc b }

/-- The outputs of an accepted decode command that gives a value (10_state.md R42). -/
def State.setOutputs (s : State) (dout : BitVec 32) (daux : BitVec 16) (dvalid : Bool) : State :=
  { s with dout := dout, daux := daux, dvalid := dvalid, dend := false, cmdErr := .ok }

/-- `common_checks(allowed)`: the refusal that a decode command meets, if any (44_decoder.md R145). -/
def decodeRefusal (allowed : List Txn) (s : State) : Option CmdErr :=
  if s.st ≠ .complete then some .notComplete
  else if s.txn ∈ allowed then none
  else some .wrongTxn

/-- A decode command: `body` runs when the common checks of 44_decoder.md R145 pass. -/
def State.decodeCommand (s : State) (allowed : List Txn) (body : State → Answer) : Answer :=
  match decodeRefusal allowed s with
  | some code => .next (s.refuse code)
  | none => body s

/-- The RESET input (70_reset_and_hazards.md R160): every register to its reset value. The
configuration, the inputs still to come and the events already emitted are no registers. -/
def State.applyReset (s : State) : State :=
  { State.reset with cfg := s.cfg, input := s.input, events := s.events }

/-- Load a configuration before RESET is released (70_reset_and_hazards.md R163); an ill-formed one is
refused (44_decoder.md R129, R135). No instruction does this. -/
def State.configure (s : State) (img : ConfigImage) : Answer :=
  match loadConfig img with
  | some c => .next { s with cfg := c }
  | none => .refused .illFormedConfiguration

end Sys2Proof.Machine
end

