-- ==== Sys2Proof/Machine/Assembler.lean ====
section
/-! DEFINITION. The frame assembler: START (42_assembler.md R90) and the seven request-frame rows of the
opcode table (30_encoding.md R60). -/

namespace Sys2Proof.Machine

/-- START t (42_assembler.md R90): ILLEGAL for t = 7, BUSY when active, else the request of t is
assembled and emitted. -/
def execStart (t : BitVec 3) (s : State) : Answer :=
  match txnOfCode t with
  | none => .next (s.refuse .illegal)
  | some t => .next (s.startTransaction t)

/-- TX_FRAME_DEVINFO: the step that emits this frame, START 0 (30_encoding.md R60, assumption 7). -/
def execTxFrameDevinfo (s : State) : Answer := .next (s.startTransaction .devinfo)

/-- TX_FRAME_PWR_ON: the step that emits this frame, START 1 (30_encoding.md R60, assumption 7). -/
def execTxFramePwrOn (s : State) : Answer := .next (s.startTransaction .pwrOn)

/-- TX_FRAME_PWR_OFF: the step that emits this frame, START 2 (30_encoding.md R60, assumption 7). -/
def execTxFramePwrOff (s : State) : Answer := .next (s.startTransaction .pwrOff)

/-- TX_FRAME_PWR_STATE: the step that emits this frame, START 3 (30_encoding.md R60, assumption 7). -/
def execTxFramePwrState (s : State) : Answer := .next (s.startTransaction .pwrState)

/-- TX_FRAME_REGS: the step that emits this frame, START 4 (30_encoding.md R60, assumption 7). -/
def execTxFrameRegs (s : State) : Answer := .next (s.startTransaction .regs)

/-- TX_FRAME_BATT: the step that emits this frame, START 5 (30_encoding.md R60, assumption 7). -/
def execTxFrameBatt (s : State) : Answer := .next (s.startTransaction .batt)

/-- TX_FRAME_WARN: the step that emits this frame, START 6 (30_encoding.md R60, assumption 7). -/
def execTxFrameWarn (s : State) : Answer := .next (s.startTransaction .warn)

end Sys2Proof.Machine
end

