-- ==== Sys2Proof/Machine/Checksum.lean ====
section
/-! DEFINITION. The CRC unit's host commands (41_checksum.md R83 to R85). -/

namespace Sys2Proof.Machine

/-- CRC_INIT (41_checksum.md R83). -/
def execCrcInit (s : State) : Answer :=
  .next { s with genCrc := crcInitValue, cmdErr := .ok }

/-- CRC_FEED b (41_checksum.md R84). -/
def execCrcFeed (b : BitVec 8) (s : State) : Answer :=
  .next { s with genCrc := crcStep s.genCrc b, cmdErr := .ok }

/-- CRC_VERIFY e (41_checksum.md R85). -/
def execCrcVerify (e : BitVec 16) (s : State) : Answer :=
  .next { s with crcOk := crcOkFlag s.genCrc e, cmdErr := .ok }

end Sys2Proof.Machine
end

