-- ==== Sys2Proof/Machine/Decoder.lean ====
section
/-! DEFINITION. The register decoder (44_decoder.md). -/

namespace Sys2Proof.Machine

/-- DEC_PSTATE (44_decoder.md R126). -/
def execDecPstate (s : State) : Answer :=
  s.decodeCommand [.pwrState] fun s =>
    let v := s.rxBuf.be16 3
    .next (s.setOutputs (v.setWidth 32) (powerClass v) true)

/-- EXTRACT(e).raw, the field-extract mux (44_decoder.md R130). -/
def extractRaw (m : Memory) (e : FieldEntry) : BitVec 32 :=
  match e.kind with
  | .u16 _ => (m.be16 (3 + e.off.toNat)).setWidth 32
  | .u32 _ => m.be32 (3 + e.off.toNat)
  | .bit pos => (BitVec.ofBool (msb0Bit (m.be16 (3 + e.off.toNat)) pos)).setWidth 32

/-- EXTRACT(e).div (44_decoder.md R130); a BIT entry's scale code is 0 (R129). -/
def extractDivisor (e : FieldEntry) : BitVec 16 :=
  match e.kind with
  | .u16 scale => divisor scale
  | .u32 scale => divisor scale
  | .bit _ => divisor 0#2

/-- The field ROM of the transaction: REG_ROM for txn 4, else BATT_ROM (44_decoder.md R131). -/
def fieldRom (s : State) : List FieldEntry :=
  if s.txn = .regs then s.cfg.regRom else s.cfg.battRom

/-- DEC_FIELD i (44_decoder.md R131). -/
def execDecField (i : BitVec 8) (s : State) : Answer :=
  s.decodeCommand [.regs, .batt] fun s =>
    match (fieldRom s)[i.toNat]? with
    | none => .next (s.refuse .range)
    | some e => .next (s.setOutputs (extractRaw s.rxBuf e) (extractDivisor e) true)

/-- DEC_WARN_RESTART (44_decoder.md R136). -/
def execDecWarnRestart (s : State) : Answer :=
  s.decodeCommand [.warn] fun s =>
    .next { s with warnPtr := 0#9, dvalid := false, dend := false, cmdErr := .ok }

/-- The first entry from position `j` on whose bit is set, with its position (44_decoder.md R137). -/
def nextActive (m : Memory) : Nat → List WarnEntry → Option (Nat × WarnEntry)
  | _, [] => none
  | j, e :: rom => if warnBit m e then some (j, e) else nextActive m (j + 1) rom

/-- DEC_WARN_NEXT (44_decoder.md R137). -/
def execDecWarnNext (s : State) : Answer :=
  s.decodeCommand [.warn] fun s =>
    let rom := s.cfg.warnRom
    match nextActive s.rxBuf s.warnPtr.toNat (rom.drop s.warnPtr.toNat) with
    | some (j, e) =>
      .next { s.setOutputs (e.wid.setWidth 32) e.rid true with warnPtr := BitVec.ofNat 9 (j + 1) }
    | none =>
      .next { s.setOutputs 0#32 0#16 false with dend := true, warnPtr := BitVec.ofNat 9 rom.length }

/-- DEC_DEVCOUNT (44_decoder.md R141). -/
def execDecDevcount (s : State) : Answer :=
  s.decodeCommand [.devinfo] fun s =>
    let os := objects s.rxBuf s.decl
    .next (s.setOutputs ((deviceCount s.rxBuf os).setWidth 32)
      (BitVec.ofNat 16 (records os).length) (countPresent os))

/-- The outputs for key `k` of the record `v`: where its value lies, `(s, m)` of 44_decoder.md R142. A key
that is absent, which R144 excludes in Complete, gives the free values of Config (assumption 10). -/
def fieldOutputs (m : Memory) (v : Slice) (k : BitVec 3) : BitVec 32 × BitVec 16 :=
  match recordField m v k with
  | some f => (BitVec.ofNat 32 f.start, BitVec.ofNat 16 f.len)
  | none => (Config.absentFieldStart v.start v.len k, Config.absentFieldLength v.start v.len k)

/-- DEC_DEVREC r, k (44_decoder.md R142): the key is checked before the common checks. -/
def execDecDevrec (r : BitVec 8) (k : BitVec 3) (s : State) : Answer :=
  if k ∈ recordKeys then
    s.decodeCommand [.devinfo] fun s =>
      match (records (objects s.rxBuf s.decl))[r.toNat]? with
      | none => .next (s.refuse .range)
      | some v =>
        .next (s.setOutputs (fieldOutputs s.rxBuf v k).1 (fieldOutputs s.rxBuf v k).2 true)
  else .next (s.refuse .illegal)

end Sys2Proof.Machine
end

