-- ==== Sys2Proof/Machine/Parser.lean ====
section
/-! DEFINITION. The frame parser: CLEAR, TX_DONE, RX_BYTE by stage, and LINK_FAIL (43_parser.md). -/

namespace Sys2Proof.Machine

/-- CLEAR (43_parser.md R100). -/
def execClear (s : State) : Answer :=
  if s.st.active then .next (s.refuse .busy)
  else .next { s.clearTransaction with st := .idle, cmdErr := .ok }

/-- TX_DONE n (43_parser.md R102). -/
def execTxDone (n : BitVec 4) (s : State) : Answer :=
  if s.st ≠ .sent then .next s.noteUnexpected
  else if n.toNat < s.txLen.toNat then .next (s.fail .transport causeShortWrite)
  else .next { s with st := .awaitingHeader, cmdErr := .ok }

/-- Where a valid header of a response with a trailer leads: the body, or the trailer when the declared
count is 0 (43_parser.md R106). -/
def stateAfterCount (b : Byte) : Fsm := if b = 0#8 then .awaitingChecksum else .awaitingBody

/-- The whole header when its last byte is `b` (43_parser.md R106): the bytes before it are read from
`rx_buf` as it stands at the start of the step, `s` (00_scope.md R13, 20_memory.md R55). -/
def receivedHeader (s : State) (b : Byte) : List Byte :=
  s.rxBuf.bytes 0 (hdrLen s.txn - 1) ++ [b]

/-- `header_done(b)` for the header `h`, once `b` has been taken (43_parser.md R106). -/
def State.headerDone (s : State) (h : List Byte) (b : Byte) : State :=
  if headerOk s.txn s.txBuf h then
    match s.txn with
    | .pwrOn | .pwrOff => s.enterComplete
    | .pwrState | .regs | .batt | .warn =>
      { s with decl := b, bodyRem := b, st := stateAfterCount b, cmdErr := .ok }
    | .devinfo =>
      { s with decl := b, objRem := b, tlvPh := .id, st := stateAfterCount b, cmdErr := .ok }
  else s.fail .protocolMismatch causeNone

/-- `rx_header(b)` (43_parser.md R105). -/
def State.rxHeader (s : State) (b : Byte) : State :=
  let n := s.hdrIdx.toNat + 1
  let t := { s.acceptByte b with hdrIdx := BitVec.ofNat 3 n }
  if n < hdrLen s.txn then { t with cmdErr := .ok } else t.headerDone (receivedHeader s b) b

/-- `rx_body(b)` of a register read (43_parser.md R108). -/
def State.rxReadBody (s : State) (b : Byte) : State :=
  let s := s.acceptByte b
  { s with
    bodyRem := s.bodyRem - 1#8
    st := if s.bodyRem - 1#8 = 0#8 then .awaitingChecksum else s.st
    cmdErr := .ok }

/-- `obj_done()` (43_parser.md R109). -/
def State.objectDone (s : State) : State :=
  { s with
    tlvPh := .id
    objRem := s.objRem - 1#8
    st := if s.objRem - 1#8 = 0#8 then .awaitingChecksum else s.st }

/-- The TLV walk of one body byte, past `accept` (43_parser.md R109). -/
def State.tlvWalk (s : State) (b : Byte) : State :=
  match s.tlvPh with
  | .id => { s with tlvPh := .len }
  | .len => if b = 0#8 then s.objectDone else { s with valRem := b, tlvPh := .val }
  | .val =>
    let t := { s with valRem := s.valRem - 1#8 }
    if s.valRem - 1#8 = 0#8 then t.objectDone else t

/-- `rx_body(b)` of the identity response (43_parser.md R109). -/
def State.rxIdentityBody (s : State) (b : Byte) : State :=
  { (s.acceptByte b).tlvWalk b with cmdErr := .ok }

/-- RX_BYTE in AwaitingBody (43_parser.md R107). For a write transaction, which never gets here, the byte
is only taken, as R103 and R104 say of every body byte (assumption 10). -/
def State.rxBody (s : State) (b : Byte) : State :=
  match s.txn with
  | .devinfo => s.rxIdentityBody b
  | .pwrState | .regs | .batt | .warn => s.rxReadBody b
  | .pwrOn | .pwrOff => { s.acceptByte b with cmdErr := .ok }

/-- `decode_check()` (43_parser.md R117). -/
def State.runDecodeCheck (s : State) : State :=
  match decodeCheck s with
  | none => s.enterComplete
  | some cause => s.fail .decode cause

/-- `check_trailer(v)` (43_parser.md R111). -/
def State.checkTrailer (s : State) (v : BitVec 16) : State :=
  if v = s.chkCrc then s.runDecodeCheck else s.fail .checksum causeNone

/-- `rx_trailer(b)` (43_parser.md R110): the low byte first. -/
def State.rxTrailer (s : State) (b : Byte) : State :=
  if s.csIdx then
    ({ s with rxCs := halfOf b (lo8 s.rxCs) } : State).checkTrailer (halfOf b (lo8 s.rxCs))
  else { s with rxCs := halfOf (hi8 s.rxCs) b, csIdx := true, cmdErr := .ok }

/-- RX_BYTE b (43_parser.md R103). -/
def execRxByte (b : BitVec 8) (s : State) : Answer :=
  match s.st with
  | .awaitingHeader => .next (s.rxHeader b)
  | .awaitingBody => .next (s.rxBody b)
  | .awaitingChecksum => .next (s.rxTrailer b)
  | .idle | .sent | .complete | .failed => .next s.noteUnexpected

/-- LINK_FAIL c (43_parser.md R112). -/
def execLinkFail (c : BitVec 3) (s : State) : Answer :=
  if isLinkCause c then
    if s.st.active then .next (s.fail .transport c) else .next s.noteUnexpected
  else .next (s.refuse .illegal)

end Sys2Proof.Machine
end

