-- ==== Sys2Proof/Machine/Reserved.lean ====
section
/-! DEFINITION. The reserved opcodes (30_encoding.md R73). -/

namespace Sys2Proof.Machine

/-- RESERVED_0: op `0x0` is refused ILLEGAL, whatever its argument (30_encoding.md R73). -/
def execReserved0 (_arg : BitVec 16) (s : State) : Answer := .next (s.refuse .illegal)

/-- RESERVED_F: op `0xF` is refused ILLEGAL, whatever its argument (30_encoding.md R73). -/
def execReservedF (_arg : BitVec 16) (s : State) : Answer := .next (s.refuse .illegal)

end Sys2Proof.Machine
end

