-- ==== Sys2Proof/Machine/Dispatch.lean ====
section
/-! DEFINITION. One arm per instruction. -/

namespace Sys2Proof.Machine

/-- What an instruction does (00_scope.md R12). -/
def exec (i : Instr) (s : State) : Host.Outcome State Fault Refusal :=
  match i with
  | .reserved0 arg => Sys2Proof.Machine.execReserved0 arg s
  | .crcInit => Sys2Proof.Machine.execCrcInit s
  | .crcFeed b => Sys2Proof.Machine.execCrcFeed b s
  | .crcVerify e => Sys2Proof.Machine.execCrcVerify e s
  | .start t => Sys2Proof.Machine.execStart t s
  | .clear => Sys2Proof.Machine.execClear s
  | .decPstate => Sys2Proof.Machine.execDecPstate s
  | .decField j => Sys2Proof.Machine.execDecField j s
  | .decWarnRestart => Sys2Proof.Machine.execDecWarnRestart s
  | .decWarnNext => Sys2Proof.Machine.execDecWarnNext s
  | .decDevcount => Sys2Proof.Machine.execDecDevcount s
  | .decDevrec r k => Sys2Proof.Machine.execDecDevrec r k s
  | .txDone n => Sys2Proof.Machine.execTxDone n s
  | .rxByte b => Sys2Proof.Machine.execRxByte b s
  | .linkFail c => Sys2Proof.Machine.execLinkFail c s
  | .reservedF arg => Sys2Proof.Machine.execReservedF arg s
  | .txFrameDevinfo => Sys2Proof.Machine.execTxFrameDevinfo s
  | .txFramePwrOn => Sys2Proof.Machine.execTxFramePwrOn s
  | .txFramePwrOff => Sys2Proof.Machine.execTxFramePwrOff s
  | .txFramePwrState => Sys2Proof.Machine.execTxFramePwrState s
  | .txFrameRegs => Sys2Proof.Machine.execTxFrameRegs s
  | .txFrameBatt => Sys2Proof.Machine.execTxFrameBatt s
  | .txFrameWarn => Sys2Proof.Machine.execTxFrameWarn s

end Sys2Proof.Machine
end

