-- ==== Sys2Proof/Decode.lean ====
section
/-! DEFINITION. The decoder of input words (30_encoding.md R71 to R75) and of request frames (R60), and
the encoder. -/

namespace Sys2Proof

/-- Why bits are no instruction. -/
inductive DecodeError where
  /-- An input word of op `0x1` to `0xE` with a 1 in a reserved argument bit: the `Illegal` of
  30_encoding.md R75, which the block refuses ILLEGAL (R74). -/
  | reservedBits (op : BitVec 4) (arg : BitVec 16)
  /-- Bytes that are none of the seven request frames of 30_encoding.md R60. -/
  | unknownFrame (bytes : List Byte)
deriving DecidableEq, Repr

/-- `op = w[19:16]` (30_encoding.md R71). -/
def wordOp (w : InputWord) : BitVec 4 := w.extractLsb' 16 4

/-- `arg = w[15:0]` (30_encoding.md R71). -/
def wordArg (w : InputWord) : BitVec 16 := w.extractLsb' 0 16

/-- The reserved argument bits of an op (30_encoding.md R74); ops `0x0` and `0xF` are reserved whole and
have none. -/
def reservedMask (op : BitVec 4) : BitVec 16 :=
  match op.toNat with
  | 0x1 => 0xFFFF#16
  | 0x2 => 0xFF00#16
  | 0x3 => 0x0000#16
  | 0x4 => 0xFFF8#16
  | 0x5 => 0xFFFF#16
  | 0x6 => 0xFFFF#16
  | 0x7 => 0xFF00#16
  | 0x8 => 0xFFFF#16
  | 0x9 => 0xFFFF#16
  | 0xA => 0xFFFF#16
  | 0xB => 0xF800#16
  | 0xC => 0xFFF0#16
  | 0xD => 0xFF00#16
  | 0xE => 0xFFF8#16
  | _ => 0x0000#16

/-- The instruction of an op and an argument whose reserved bits are 0 (30_encoding.md R75). -/
def instrOf (op : BitVec 4) (arg : BitVec 16) : Instr :=
  match op.toNat with
  | 0x0 => .reserved0 arg
  | 0x1 => .crcInit
  | 0x2 => .crcFeed (arg.extractLsb' 0 8)
  | 0x3 => .crcVerify arg
  | 0x4 => .start (arg.extractLsb' 0 3)
  | 0x5 => .clear
  | 0x6 => .decPstate
  | 0x7 => .decField (arg.extractLsb' 0 8)
  | 0x8 => .decWarnRestart
  | 0x9 => .decWarnNext
  | 0xA => .decDevcount
  | 0xB => .decDevrec (arg.extractLsb' 0 8) (arg.extractLsb' 8 3)
  | 0xC => .txDone (arg.extractLsb' 0 4)
  | 0xD => .rxByte (arg.extractLsb' 0 8)
  | 0xE => .linkFail (arg.extractLsb' 0 3)
  | _ => .reservedF arg

/-- Decode an input word (30_encoding.md R75): total, and rejecting only reserved argument bits. -/
def decode (w : InputWord) : Except DecodeError Instr :=
  if wordArg w &&& reservedMask (wordOp w) = 0#16 then .ok (instrOf (wordOp w) (wordArg w))
  else .error (.reservedBits (wordOp w) (wordArg w))

/-- A request-frame row of the opcode table: its bytes in wire order, its instruction, and the selector
of the START that emits it (30_encoding.md R58, R60). -/
structure FrameRow where
  bytes : List Byte
  instr : Instr
  selector : BitVec 3
deriving DecidableEq, Repr

/-- The seven request frames as the opcode table lists them, checksum included (30_encoding.md R60). -/
def frameTable : List FrameRow :=
  [⟨[0x01#8, 0x2B#8, 0x0E#8, 0x03#8, 0x87#8, 0x31#8, 0x75#8], .txFrameDevinfo, 0#3⟩,
   ⟨[0x01#8, 0x06#8, 0x2B#8, 0x15#8, 0x00#8, 0x01#8, 0x50#8, 0x2A#8], .txFramePwrOn, 1#3⟩,
   ⟨[0x01#8, 0x06#8, 0x2B#8, 0x16#8, 0x00#8, 0x01#8, 0xA0#8, 0x2A#8], .txFramePwrOff, 2#3⟩,
   ⟨[0x01#8, 0x03#8, 0x2B#8, 0x14#8, 0x00#8, 0x01#8, 0xCD#8, 0xEA#8], .txFramePwrState, 3#3⟩,
   ⟨[0x01#8, 0x03#8, 0x2A#8, 0xF8#8, 0x00#8, 0x2B#8, 0x8C#8, 0x3C#8], .txFrameRegs, 4#3⟩,
   ⟨[0x01#8, 0x03#8, 0x2E#8, 0xE0#8, 0x00#8, 0x21#8, 0x8D#8, 0x0C#8], .txFrameBatt, 5#3⟩,
   ⟨[0x01#8, 0x03#8, 0xA0#8, 0xDC#8, 0x00#8, 0x1A#8, 0x27#8, 0xFB#8], .txFrameWarn, 6#3⟩]

/-- The table's row for these bytes, if they are a request frame. -/
def frameRow (bytes : List Byte) : Option FrameRow :=
  frameTable.find? fun row => row.bytes == bytes

/-- The instruction of a request frame's bytes, in wire order. -/
def decodeFrame (bytes : List Byte) : Except DecodeError Instr :=
  match frameRow bytes with
  | some row => .ok row.instr
  | none => .error (.unknownFrame bytes)

/-- What a row of the opcode table is made of: one input word, or the bytes of a request frame. -/
inductive Encoding where
  | word (w : InputWord)
  | frame (bytes : List Byte)
deriving DecidableEq, Repr

/-- Decode either kind of encoding. -/
def decodeEncoding : Encoding → Except DecodeError Instr
  | .word w => decode w
  | .frame bytes => decodeFrame bytes

/-- The word of an op and an argument (30_encoding.md R71). -/
def wordOf (op : BitVec 4) (arg : BitVec 16) : InputWord := op ++ arg

/-- Encode an instruction, from the fields of 30_encoding.md R72 and the frames of R60. -/
def encode : Instr → Encoding
  | .reserved0 arg => .word (wordOf 0x0#4 arg)
  | .crcInit => .word (wordOf 0x1#4 0#16)
  | .crcFeed b => .word (wordOf 0x2#4 (b.setWidth 16))
  | .crcVerify e => .word (wordOf 0x3#4 e)
  | .start t => .word (wordOf 0x4#4 (t.setWidth 16))
  | .clear => .word (wordOf 0x5#4 0#16)
  | .decPstate => .word (wordOf 0x6#4 0#16)
  | .decField i => .word (wordOf 0x7#4 (i.setWidth 16))
  | .decWarnRestart => .word (wordOf 0x8#4 0#16)
  | .decWarnNext => .word (wordOf 0x9#4 0#16)
  | .decDevcount => .word (wordOf 0xA#4 0#16)
  | .decDevrec r k => .word (wordOf 0xB#4 ((k ++ r).setWidth 16))
  | .txDone n => .word (wordOf 0xC#4 (n.setWidth 16))
  | .rxByte b => .word (wordOf 0xD#4 (b.setWidth 16))
  | .linkFail c => .word (wordOf 0xE#4 (c.setWidth 16))
  | .reservedF arg => .word (wordOf 0xF#4 arg)
  | .txFrameDevinfo => .frame [0x01#8, 0x2B#8, 0x0E#8, 0x03#8, 0x87#8, 0x31#8, 0x75#8]
  | .txFramePwrOn => .frame [0x01#8, 0x06#8, 0x2B#8, 0x15#8, 0x00#8, 0x01#8, 0x50#8, 0x2A#8]
  | .txFramePwrOff => .frame [0x01#8, 0x06#8, 0x2B#8, 0x16#8, 0x00#8, 0x01#8, 0xA0#8, 0x2A#8]
  | .txFramePwrState => .frame [0x01#8, 0x03#8, 0x2B#8, 0x14#8, 0x00#8, 0x01#8, 0xCD#8, 0xEA#8]
  | .txFrameRegs => .frame [0x01#8, 0x03#8, 0x2A#8, 0xF8#8, 0x00#8, 0x2B#8, 0x8C#8, 0x3C#8]
  | .txFrameBatt => .frame [0x01#8, 0x03#8, 0x2E#8, 0xE0#8, 0x00#8, 0x21#8, 0x8D#8, 0x0C#8]
  | .txFrameWarn => .frame [0x01#8, 0x03#8, 0xA0#8, 0xDC#8, 0x00#8, 0x1A#8, 0x27#8, 0xFB#8]

/-- The `n` low bytes of a number, the least significant first. -/
def bytesOfNat : Nat → Nat → List Byte
  | 0, _ => []
  | n + 1, w => BitVec.ofNat 8 w :: bytesOfNat n (w / 256)

/-- The bytes of a frame row's bits, in wire order: the first byte in bits 7:0, or, where that reading is
no request frame, the first byte on top, as the table's `encoding` string writes it (assumption 8). -/
def frameOfTableWord (nbits w : Nat) : List Byte :=
  let bytes := bytesOfNat (nbits / 8) w
  if (frameRow bytes).isSome then bytes else bytes.reverse

/-- The encoding that a table row's bits stand for: up to 24 bits are an input word, whose bits above
bit 19 are 0; more bits are a frame (assumption 8). -/
def encodingOfTableWord (nbits w : Nat) : Option Encoding :=
  if nbits ≤ 24 then
    if w < 2 ^ 20 then some (.word (BitVec.ofNat 20 w)) else none
  else some (.frame (frameOfTableWord nbits w))

/-- The instruction that the decoder reads from a table row's bits (assumption 8). -/
def decodeTableWord (nbits w : Nat) : Option Instr :=
  match encodingOfTableWord nbits w with
  | none => none
  | some enc =>
    match decodeEncoding enc with
    | .ok i => some i
    | .error _ => none

/-- The input word that makes the block run a table row: the row's own word, decodable or not, or the
START that emits the row's frame (30_encoding.md R60, assumptions 7 and 8). -/
def inputOfTableWord (nbits w : Nat) : Option InputWord :=
  match encodingOfTableWord nbits w with
  | none => none
  | some (.word v) => some v
  | some (.frame bytes) => (frameRow bytes).map fun row => wordOf 0x4#4 (row.selector.setWidth 16)

end Sys2Proof
end

