-- ==== Sys2Proof/Machine/Fetch.lean ====
section
/-! DEFINITION. Taking the next input of the stream (00_scope.md R12, 20_memory.md R57) and placing one. -/

namespace Sys2Proof.Machine

/-- The state with one more input in front of those to come. -/
def State.withInput (s : State) (x : Input) : State := { s with input := x :: s.input }

/-- The state once its next input has been taken off the stream. -/
def State.dropInput (s : State) : State := { s with input := s.input.tail }

/-- A word that decodes to no instruction is refused ILLEGAL (30_encoding.md R74, R75). -/
def State.refuseIllegal (s : State) : State := s.refuse .illegal

end Sys2Proof.Machine
end

