-- ==== Sys2Proof/Machine/Step.lean ====
section
/-! DEFINITION. One step of the block: take the next input and run it (00_scope.md R12). -/

namespace Sys2Proof.Machine

/-- One step. With no input to take the block is idle and keeps all state (60_exceptions.md R159,
assumption 2). RESET and the words are taken off the stream first; a word that does not decode is
refused ILLEGAL (30_encoding.md R75). -/
def step (s : State) : Host.Outcome State Fault Refusal :=
  match s.input with
  | [] => .next s
  | .reset :: _ => .next s.dropInput.applyReset
  | .word w :: _ =>
    match decode w with
    | .ok i => exec i s.dropInput
    | .error _ => .next s.dropInput.refuseIllegal

/-- The state whose next step runs the instruction of a table row's bits: the row's input is placed in
front of the stream (assumptions 1 and 8). Bits that are no input leave the state as it is. -/
def State.withFetchWord (s : State) (nbits w : Nat) : State :=
  match inputOfTableWord nbits w with
  | some v => s.withInput (.word v)
  | none => s

end Sys2Proof.Machine
end

