-- ==== Sys2Proof/Machine/ReadPort.lean ====
section
/-! DEFINITION. The host read port (10_state.md R37 to R41). A read is a function of the state: it is no
step and changes nothing. -/

namespace Sys2Proof.Machine

/-- STATUS (10_state.md R38). -/
def statusWord (s : State) : BitVec 32 :=
  (cmdErrCode s.cmdErr ++ BitVec.ofBool s.dend ++ BitVec.ofBool s.dvalid ++ txnCode s.txn
    ++ BitVec.ofBool s.ovf ++ BitVec.ofBool s.stray ++ BitVec.ofBool s.crcOk
    ++ BitVec.ofBool s.st.terminal ++ BitVec.ofBool s.st.active ++ fsmCode s.st).setWidth 32

/-- ERROR (10_state.md R39). -/
def errorWord (s : State) : BitVec 32 :=
  (fsmCode s.errState ++ s.errCause ++ errKindCode s.errKind).setWidth 32

/-- COUNTERS (10_state.md R40). -/
def countersWord (s : State) : BitVec 32 :=
  s.valRem ++ s.objRem ++ s.bodyRem ++ 0#2 ++ tlvPhaseCode s.tlvPh ++ BitVec.ofBool s.csIdx ++ s.hdrIdx

/-- TXBUF_LO and TXBUF_HI: four bytes of the TX buffer, the first in bits 7:0 (10_state.md R37). -/
def txBufWord (b0 b1 b2 b3 : Byte) : BitVec 32 := b3 ++ b2 ++ b1 ++ b0

/-- The 32-bit value at an 8-bit register address; an address that R37 does not list reads 0. -/
def hostRead (s : State) (addr : BitVec 8) : BitVec 32 :=
  match addr.toNat with
  | 0x00 => statusWord s
  | 0x01 => errorWord s
  | 0x02 => s.genCrc.setWidth 32
  | 0x03 => s.chkCrc.setWidth 32
  | 0x04 => s.rxCs.setWidth 32
  | 0x05 => s.rxLen.setWidth 32
  | 0x06 => s.decl.setWidth 32
  | 0x07 => countersWord s
  | 0x08 => s.dout
  | 0x09 => s.daux.setWidth 32
  | 0x0A => s.warnPtr.setWidth 32
  | 0x0B => s.txLen.setWidth 32
  | 0x0C => txBufWord s.txBuf[0] s.txBuf[1] s.txBuf[2] s.txBuf[3]
  | 0x0D => txBufWord s.txBuf[4] s.txBuf[5] s.txBuf[6] s.txBuf[7]
  | _ => 0#32

/-- The RX window (10_state.md R41): the byte at index `i`, or 0 where the current transaction has not
stored one. -/
def rxWindow (s : State) (i : BitVec 17) : Byte :=
  if i.toNat < s.rxLen.toNat ∧ i.toNat < s.cfg.rxbufCap then s.rxBuf.read i.toNat else 0#8

end Sys2Proof.Machine
end

