-- ==== Sys2Proof/Safety.lean ====
section
/-! DEFINITION. What statements are made of: running a list of instructions, and the invariants that hold
in every state a run from reset reaches (10_state.md R45). -/

namespace Sys2Proof.Machine

/-- Run instructions one after the other, stopping at the first fault or refusal. -/
def execAll : List Instr → State → Answer
  | [], s => .next s
  | i :: is, s =>
    match exec i s with
    | .next t => execAll is t
    | .fault r => .fault r
    | .refused r => .refused r

/-- The response bytes `bs` delivered in order, one RX_BYTE each. -/
def receive (bs : List Byte) (s : State) : Answer := execAll (bs.map Instr.rxByte) s

/-- The outputs of successive DEC_WARN_NEXT words while they report a warning, at most `n` of them
(44_decoder.md R138). -/
def warnScan : Nat → State → List (BitVec 32 × BitVec 16)
  | 0, _ => []
  | n + 1, s =>
    match exec .decWarnNext s with
    | .next t => if t.dvalid then (t.dout, t.daux) :: warnScan n t else []
    | .fault _ => []
    | .refused _ => []

/-- The received bytes `rx_buf[0..rx_len)` (10_state.md R24, R25). -/
def State.received (s : State) : List Byte := s.rxBuf.bytes 0 s.rxLen.toNat

/-- The bytes the TLV walk of an identity body has taken at most, by the objects it has finished and its
phase (30_encoding.md R67, R78, 43_parser.md R109). -/
def State.tlvBudget (s : State) : Prop :=
  let done := s.decl.toNat - s.objRem.toNat
  match s.tlvPh with
  | .id => s.rxLen.toNat ≤ 8 + 257 * done
  | .len => s.rxLen.toNat ≤ 8 + 257 * done + 1
  | .val => s.rxLen.toNat + s.valRem.toNat ≤ 8 + 257 * done + 257

/-- The RX buffer's memory is in its canonical form and lists no index beyond the capacity
(10_state.md R24). -/
structure MemoryInv (s : State) : Prop where
  canonical : s.rxBuf.wf = true
  inside : ∀ c ∈ s.rxBuf, c.1 < s.cfg.rxbufCap

/-- The control state is one that the rules reach (10_state.md R45 c, d, e): a stage that a transaction
does not have is never entered, the counters of a stage are not exhausted in it, the failure record
agrees with `st`, and a Complete transaction has passed its decode check. -/
structure ControlInv (s : State) : Prop where
  stageOfWrite : s.st = .awaitingBody ∨ s.st = .awaitingChecksum → isWrite s.txn = false
  bodyLeft : s.st = .awaitingBody → isRead s.txn = true → s.bodyRem ≠ 0
  objectsLeft : s.st = .awaitingBody → s.txn = .devinfo → s.objRem ≠ 0
  valueLeft : s.st = .awaitingBody → s.txn = .devinfo → s.tlvPh = .val → s.valRem ≠ 0
  record : s.st = .failed ↔ s.errKind ≠ .none
  checked : s.st = .complete → isWrite s.txn = false → decodeCheck s = none

/-- The counters agree with the number of bytes received (10_state.md R25, R27 to R33, R45 f). -/
structure LengthInv (s : State) : Prop where
  bound : s.rxLen.toNat ≤ 65543
  overflow : s.ovf = true ↔ s.cfg.rxbufCap < s.rxLen.toNat
  beforeHeader : s.st = .sent → s.rxLen = 0 ∧ s.hdrIdx = 0
  inHeader : s.st = .awaitingHeader →
    s.rxLen.toNat = s.hdrIdx.toNat ∧ s.hdrIdx.toNat < hdrLen s.txn
  inReadBody : s.st = .awaitingBody → isRead s.txn = true →
    s.rxLen.toNat + s.bodyRem.toNat = 3 + s.decl.toNat
  inIdentityBody : s.st = .awaitingBody → s.txn = .devinfo →
    s.objRem.toNat ≤ s.decl.toNat ∧ s.tlvBudget

/-- The invariant that rules out the states of which no rule of the spec speaks (assumption 10). -/
structure StateInv (s : State) : Prop where
  control : ControlInv s
  length : LengthInv s

/-- The verifier accumulator is the checksum of the bytes received, as long as all of them were stored
(10_state.md R23, R45 b). -/
structure CrcInv (s : State) : Prop where
  canonical : s.rxBuf.wf = true
  stored : s.ovf = false → s.rxLen.toNat ≤ s.cfg.rxbufCap
  accumulated : s.ovf = false → s.chkCrc = crc16 s.received

/-- Every `close` stands right after the `tx_frame` of its transaction (43_parser.md R116). -/
def closesPaired : List Event → Bool
  | [] => true
  | .close :: _ => false
  | .txFrame _ :: .close :: es => closesPaired es
  | .txFrame _ :: es => closesPaired es

/-- The output events are those of 60_exceptions.md R152 and 43_parser.md R116: only the seven request
frames are emitted, each `close` ends the transaction before it, and an active transaction has been
offered and not yet closed. -/
structure EventInv (s : State) : Prop where
  paired : closesPaired s.events = true
  frames : ∀ bs, Event.txFrame bs ∈ s.events → ∃ t, bs = requestFrame t
  assembled : s.st ≠ .idle → s.txFrame = requestFrame s.txn
  offered : s.st.active = true → s.events.getLast? = some (.txFrame (requestFrame s.txn))

end Sys2Proof.Machine
end

