-- ==== Sys2Proof/Certificates/Slice0/Obligations.lean ====
section
/-! DEFINITION. The statements for the provers, from the numbered rules of spec/. A next state is given
as the record update of the state before, so each such equation is also the instruction's frame. -/

namespace Sys2Proof.Statement

open Machine

/-- The registers at the values of 70_reset_and_hazards.md R160. -/
structure AtReset (t : State) : Prop where
  st : t.st = .idle
  txn : t.txn = .devinfo
  genCrc : t.genCrc = 0xFFFF#16
  crcOk : t.crcOk = false
  txBuf : t.txBuf.toList = List.replicate 8 0#8
  txLen : t.txLen = 0#4
  chkCrc : t.chkCrc = 0xFFFF#16
  rxLen : t.rxLen = 0#17
  decl : t.decl = 0#8
  hdrIdx : t.hdrIdx = 0#3
  bodyRem : t.bodyRem = 0#8
  objRem : t.objRem = 0#8
  tlvPh : t.tlvPh = .id
  valRem : t.valRem = 0#8
  csIdx : t.csIdx = false
  rxCs : t.rxCs = 0#16
  ovf : t.ovf = false
  errKind : t.errKind = .none
  errCause : t.errCause = 0#3
  errState : t.errState = .idle
  stray : t.stray = false
  cmdErr : t.cmdErr = .ok
  dout : t.dout = 0#32
  daux : t.daux = 0#16
  dvalid : t.dvalid = false
  dend : t.dend = false
  warnPtr : t.warnPtr = 0#9

/-- The reserved-bit masks as 30_encoding.md R74 lists them. -/
def reservedMasks : List (BitVec 4 × BitVec 16) :=
  [(0x1#4, 0xFFFF#16), (0x5#4, 0xFFFF#16), (0x6#4, 0xFFFF#16), (0x8#4, 0xFFFF#16),
   (0x9#4, 0xFFFF#16), (0xA#4, 0xFFFF#16), (0x2#4, 0xFF00#16), (0x7#4, 0xFF00#16),
   (0xD#4, 0xFF00#16), (0x3#4, 0x0000#16), (0x4#4, 0xFFF8#16), (0xE#4, 0xFFF8#16),
   (0xB#4, 0xF800#16), (0xC#4, 0xFFF0#16)]

/-- The word with this op and argument is refused ILLEGAL in every state, with no other effect. -/
def RefusedIllegal (op : BitVec 4) (arg : BitVec 16) : Prop :=
  ∀ (s : State) (rest : List Input), s.input = .word (op ++ arg) :: rest →
    step s = .next { s with input := rest, cmdErr := .illegal }

/-- The word with this op is refused ILLEGAL for an argument with a bit outside its `n` low ones. -/
def RefusedAbove (op : BitVec 4) (n : Nat) : Prop :=
  ∀ arg : BitVec 16, 2 ^ n ≤ arg.toNat → RefusedIllegal op arg

/-- The instruction is refused by the common checks of 44_decoder.md R145, in their order. -/
def RefusedUnlessComplete (i : Instr) (allowed : List Txn) : Prop :=
  ∀ s : State,
    (s.st ≠ .complete → exec i s = .next { s with cmdErr := .notComplete }) ∧
    (s.st = .complete → s.txn ∉ allowed → exec i s = .next { s with cmdErr := .wrongTxn })

/-- A row of the table of 30_encoding.md R60. -/
structure RequestRow where
  txn : Txn
  selector : BitVec 3
  instr : Instr
  body : List Byte
  crc : BitVec 16
  frame : List Byte

/-- The table of 30_encoding.md R60. -/
def requestTable : List RequestRow :=
  [⟨.devinfo, 0#3, .txFrameDevinfo, [0x01#8, 0x2B#8, 0x0E#8, 0x03#8, 0x87#8], 0x7531#16,
     [0x01#8, 0x2B#8, 0x0E#8, 0x03#8, 0x87#8, 0x31#8, 0x75#8]⟩,
   ⟨.pwrOn, 1#3, .txFramePwrOn, [0x01#8, 0x06#8, 0x2B#8, 0x15#8, 0x00#8, 0x01#8], 0x2A50#16,
     [0x01#8, 0x06#8, 0x2B#8, 0x15#8, 0x00#8, 0x01#8, 0x50#8, 0x2A#8]⟩,
   ⟨.pwrOff, 2#3, .txFramePwrOff, [0x01#8, 0x06#8, 0x2B#8, 0x16#8, 0x00#8, 0x01#8], 0x2AA0#16,
     [0x01#8, 0x06#8, 0x2B#8, 0x16#8, 0x00#8, 0x01#8, 0xA0#8, 0x2A#8]⟩,
   ⟨.pwrState, 3#3, .txFramePwrState, [0x01#8, 0x03#8, 0x2B#8, 0x14#8, 0x00#8, 0x01#8], 0xEACD#16,
     [0x01#8, 0x03#8, 0x2B#8, 0x14#8, 0x00#8, 0x01#8, 0xCD#8, 0xEA#8]⟩,
   ⟨.regs, 4#3, .txFrameRegs, [0x01#8, 0x03#8, 0x2A#8, 0xF8#8, 0x00#8, 0x2B#8], 0x3C8C#16,
     [0x01#8, 0x03#8, 0x2A#8, 0xF8#8, 0x00#8, 0x2B#8, 0x8C#8, 0x3C#8]⟩,
   ⟨.batt, 5#3, .txFrameBatt, [0x01#8, 0x03#8, 0x2E#8, 0xE0#8, 0x00#8, 0x21#8], 0x0C8D#16,
     [0x01#8, 0x03#8, 0x2E#8, 0xE0#8, 0x00#8, 0x21#8, 0x8D#8, 0x0C#8]⟩,
   ⟨.warn, 6#3, .txFrameWarn, [0x01#8, 0x03#8, 0xA0#8, 0xDC#8, 0x00#8, 0x1A#8], 0xFB27#16,
     [0x01#8, 0x03#8, 0xA0#8, 0xDC#8, 0x00#8, 0x1A#8, 0x27#8, 0xFB#8]⟩]

/-- The effect of an accepted START of the row (42_assembler.md R90): everything but the TX buffer is
given outright; the frame lies at the front of the TX buffer and the rest of it is kept. -/
def Started (r : RequestRow) (s t : State) : Prop :=
  t.txBuf.toList = r.frame ++ s.txBuf.toList.drop r.frame.length ∧
  t = { s with
    st := .sent, txn := r.txn, genCrc := r.crc, txBuf := t.txBuf
    txLen := BitVec.ofNat 4 r.frame.length
    chkCrc := 0xFFFF#16, rxLen := 0#17, decl := 0#8, hdrIdx := 0#3, bodyRem := 0#8, objRem := 0#8
    tlvPh := .id, valRem := 0#8, csIdx := false, rxCs := 0#16, ovf := false
    errKind := .none, errCause := 0#3, errState := .idle, stray := false, cmdErr := .ok
    dout := 0#32, daux := 0#16, dvalid := false, dend := false, warnPtr := 0#9
    events := s.events ++ [.txFrame r.frame] }

/-- The next state `t` has taken the byte `b` as `accept` says (43_parser.md R104). -/
structure Accepted (s t : State) (b : Byte) : Prop where
  length : t.rxLen = s.rxLen + 1#17
  crc : t.chkCrc = crcStep s.chkCrc b
  stored : s.rxLen.toNat < s.cfg.rxbufCap →
    t.ovf = s.ovf ∧ t.rxBuf.read s.rxLen.toNat = b ∧
      ∀ a, a ≠ s.rxLen.toNat → t.rxBuf.read a = s.rxBuf.read a
  overflowed : s.cfg.rxbufCap ≤ s.rxLen.toNat → t.ovf = true ∧ t.rxBuf = s.rxBuf

/-- `s` with the registers that `accept` writes taken from `t`. -/
def withAccepted (s t : State) : State :=
  { s with rxBuf := t.rxBuf, ovf := t.ovf, rxLen := t.rxLen, chkCrc := t.chkCrc }

/-- The failure entry from `s`, which keeps everything else (60_exceptions.md R148). -/
def failed (s : State) (at_ : Fsm) (kind : ErrKind) (cause : BitVec 3) : State :=
  { s with errKind := kind, errCause := cause, errState := at_, st := .failed, cmdErr := .ok
           events := s.events ++ [.close] }

/-- Entry into Complete from `s` (43_parser.md R123). -/
def completed (s : State) : State :=
  { s with st := .complete, warnPtr := 0#9, cmdErr := .ok, events := s.events ++ [.close] }

/-- HDR_OK(txn, h) (30_encoding.md R69). -/
def HeaderMatches (t : Txn) (txBuf : Vector Byte 8) (h : List Byte) : Prop :=
  match t with
  | .devinfo => h.take 5 = [0x01#8, 0x2B#8, 0x0E#8, 0x03#8, 0x03#8]
  | .pwrOn | .pwrOff => h = txBuf.toList
  | .pwrState | .regs | .batt | .warn => h.take 2 = [0x01#8, 0x03#8]

/-- The object passes its part of the decode check (43_parser.md R117). -/
def ObjectOk (m : Memory) (o : TlvObject) : Prop :=
  (o.id = 0x87#8 → o.value.len = 2) ∧
  (o.id ≠ 0x87#8 → ∀ k ∈ [1#3, 2#3, 3#3, 4#3, 5#3, 6#3], (recordField m o.value k).isSome = true)

/-- The DECODE cause of an object that does not pass (43_parser.md R117). -/
def objectCause (o : TlvObject) : BitVec 3 := if o.id = 0x87#8 then 2#3 else 3#3

/-- The unsigned big-endian value of the two bytes at `i` (00_scope.md R11). -/
def be16Nat (m : Memory) (i : Nat) : Nat := (m.read i).toNat * 256 + (m.read (i + 1)).toNat

/-- The unsigned big-endian value of the four bytes at `i` (00_scope.md R11). -/
def be32Nat (m : Memory) (i : Nat) : Nat := be16Nat m i * 65536 + be16Nat m (i + 2)

/-- The decode command of each row is allowed for its transactions (44_decoder.md R145). -/
def decodeCommands (i : BitVec 8) (r : BitVec 8) (k : BitVec 3) : List (Instr × List Txn) :=
  [(.decPstate, [.pwrState]), (.decField i, [.regs, .batt]), (.decWarnRestart, [.warn]),
   (.decWarnNext, [.warn]), (.decDevcount, [.devinfo]), (.decDevrec r k, [.devinfo])]

/-- The host words that are neither START nor CLEAR (30_encoding.md R72). -/
def hostQuery : Instr → Bool
  | .crcInit | .crcFeed _ | .crcVerify _ => true
  | .decPstate | .decField _ | .decWarnRestart | .decWarnNext | .decDevcount | .decDevrec _ _ => true
  | _ => false

/-- The transport's words (30_encoding.md R72). -/
def transportWord : Instr → Bool
  | .txDone _ | .rxByte _ | .linkFail _ => true
  | _ => false

/-- START and the rows that stand for it. -/
def startWord : Instr → Bool
  | .start _ => true
  | .txFrameDevinfo | .txFramePwrOn | .txFramePwrOff | .txFramePwrState => true
  | .txFrameRegs | .txFrameBatt | .txFrameWarn => true
  | _ => false

/-- The checks of 44_decoder.md R129 on a field word, for a table of `bodyLen` bytes. -/
def FieldWordOk (bodyLen : Nat) (w : BitVec 32) : Prop :=
  let kind := (w.extractLsb' 6 2).toNat
  let scale := (w.extractLsb' 4 2).toNat
  let bit := (w.extractLsb' 0 4).toNat
  let off := (w.extractLsb' 8 8).toNat
  (kind = 0 ∧ bit = 0 ∧ off + 2 ≤ bodyLen) ∨
  (kind = 1 ∧ bit = 0 ∧ off + 4 ≤ bodyLen) ∨
  (kind = 2 ∧ scale = 0 ∧ off + 2 ≤ bodyLen)

/-- The checks of 44_decoder.md R135 on a warning word. -/
def WarnWordOk (w : BitVec 48) : Prop :=
  (w.extractLsb' 4 4).toNat = 0 ∧ (w.extractLsb' 8 8).toNat + 2 ≤ 52

/-- The checks of 00_scope.md R7 and 44_decoder.md R129, R135 on a configuration. -/
structure ImageOk (img : ConfigImage) : Prop where
  cap : 258 ≤ img.rxbufCap ∧ img.rxbufCap ≤ 65543
  regLength : img.regRom.length ≤ 256
  battLength : img.battRom.length ≤ 256
  warnLength : img.warnRom.length ≤ 256
  reg : ∀ w ∈ img.regRom, FieldWordOk 86 w
  batt : ∀ w ∈ img.battRom, FieldWordOk 66 w
  warn : ∀ w ∈ img.warnRom, WarnWordOk w

/-- The bytes of an identity body of these objects (30_encoding.md R67). -/
def identityBody (objs : List (Byte × List Byte)) : List Byte :=
  objs.flatMap fun o => o.1 :: BitVec.ofNat 8 o.2.length :: o.2

/-- A transaction whose request was just accepted, at the first header byte: what START and TX_DONE
leave (42_assembler.md R90, 43_parser.md R102). -/
structure AtFirstByte (s : State) : Prop where
  st : s.st = .awaitingHeader
  hdrIdx : s.hdrIdx = 0#3
  rxLen : s.rxLen = 0#17
  chkCrc : s.chkCrc = 0xFFFF#16
  csIdx : s.csIdx = false
  ovf : s.ovf = false
  memory : s.rxBuf.wf = true

/-- The failure record of R34 is clear. -/
def NoFailure (t : State) : Prop := t.errKind = .none ∧ t.errCause = 0#3 ∧ t.errState = .idle

end Sys2Proof.Statement

open Sys2Proof Sys2Proof.Machine Sys2Proof.Statement

/-! ### Reset and the step -/

/-- 70_reset_and_hazards.md R160: the RESET input in any state, and the state right after reset. -/
def Obligations.ResetSetsEveryRegister : Prop :=
  AtReset State.reset ∧
  ∀ (s : State) (rest : List Input), s.input = .reset :: rest →
    ∃ t, step s = .next t ∧ AtReset t ∧
      t.cfg = s.cfg ∧ t.input = rest ∧ t.events = s.events

/-- A word that decodes is run by exec on the state with the word taken off the stream, and with no
input a step changes nothing; how the stream is held and the idle step are the model's choices
(assumptions 1 and 2). -/
def Obligations.StepRunsDecodedInstruction : Prop :=
  (∀ (s : State) (w : InputWord) (rest : List Input) (i : Instr),
    s.input = .word w :: rest → decode w = .ok i → step s = exec i { s with input := rest }) ∧
  (∀ s : State, s.input = [] → step s = .next s)

/-! ### Encodings -/

/-- 30_encoding.md R74. -/
def Obligations.ReservedBitsAreRefusedIllegal : Prop :=
  ∀ row ∈ reservedMasks, ∀ arg : BitVec 16, arg &&& row.2 ≠ 0#16 → RefusedIllegal row.1 arg

/-- 30_encoding.md R73. -/
def Obligations.ReservedOpcodesAreRefusedIllegal : Prop :=
  (∀ op ∈ [0x0#4, 0xF#4], ∀ arg, RefusedIllegal op arg) ∧
  (∀ arg s, exec (.reserved0 arg) s = .next { s with cmdErr := .illegal }) ∧
  (∀ arg s, exec (.reservedF arg) s = .next { s with cmdErr := .illegal })

/-- Words written out from 30_encoding.md R72, one a family at least. -/
def Obligations.WrittenOutWordsDecode : Prop :=
  decode 0x01234#20 = .ok (.reserved0 0x1234#16) ∧
  decode 0x10000#20 = .ok .crcInit ∧
  decode 0x200A5#20 = .ok (.crcFeed 0xA5#8) ∧
  decode 0x34B37#20 = .ok (.crcVerify 0x4B37#16) ∧
  decode 0x40006#20 = .ok (.start 6#3) ∧
  decode 0x50000#20 = .ok .clear ∧
  decode 0x700FE#20 = .ok (.decField 0xFE#8) ∧
  decode 0xB0401#20 = .ok (.decDevrec 0x01#8 4#3) ∧
  decode 0xC0008#20 = .ok (.txDone 8#4) ∧
  decode 0xD0087#20 = .ok (.rxByte 0x87#8) ∧
  decode 0xE0003#20 = .ok (.linkFail 3#3) ∧
  decode 0x20100#20 = .error (.reservedBits 0x2#4 0x0100#16)

/-- 30_encoding.md R72, R75, R60: no bit of an operand is lost. -/
def Obligations.DecodeInvertsEncode : Prop :=
  ∀ i : Instr, decodeEncoding (encode i) = .ok i

/-- 30_encoding.md R72, R75: an input word has one meaning. -/
def Obligations.EncodeInvertsDecode : Prop :=
  ∀ (w : InputWord) (i : Instr), decode w = .ok i → encode i = .word w

/-- 30_encoding.md R75 with the masks of R74: the decoder is total and rejects reserved bits only. -/
def Obligations.DecodeRejectsReservedBitsOnly : Prop :=
  ∀ (op : BitVec 4) (arg : BitVec 16),
    (∃ i, decode (op ++ arg) = .ok i) ↔ ∀ row ∈ reservedMasks, row.1 = op → arg &&& row.2 = 0#16

/-! ### The CRC unit -/

/-- 41_checksum.md R80 to R82. -/
def Obligations.Crc16IsTheModbusChecksum : Prop :=
  (∀ (c : BitVec 16) (b : Byte), crcStep c b =
    (fun c : BitVec 16 => if c.getLsbD 0 then (c >>> 1) ^^^ 0xA001#16 else c >>> 1)^[8]
      (c ^^^ b.setWidth 16)) ∧
  crcStep 0xFFFF#16 0x00#8 = 0x40BF#16 ∧ crcStep 0xFFFF#16 0x01#8 = 0x807E#16 ∧
  crc16 [] = 0xFFFF#16 ∧
  (∀ (bs : List Byte) (b : Byte), crc16 (bs ++ [b]) = crcStep (crc16 bs) b) ∧
  crc16 [0x31#8, 0x32#8, 0x33#8, 0x34#8, 0x35#8, 0x36#8, 0x37#8, 0x38#8, 0x39#8] = 0x4B37#16 ∧
  (∀ (bs : List Byte) (e : BitVec 16), crcVerify bs e = true ↔ crc16 bs = e)

/-- 41_checksum.md R83. -/
def Obligations.CrcInitSetsTheAccumulator : Prop :=
  encode .crcInit = .word 0x10000#20 ∧
  (∀ s, exec .crcInit s = .next { s with genCrc := 0xFFFF#16, cmdErr := .ok }) ∧
  RefusedAbove 0x1#4 0

/-- 41_checksum.md R84: the last clause is its corner case, the checksum of the bytes fed after CRC_INIT. -/
def Obligations.CrcFeedAddsOneByte : Prop :=
  (∀ b, encode (.crcFeed b) = .word (0x2#4 ++ 0#8 ++ b)) ∧
  (∀ b s, exec (.crcFeed b) s = .next { s with genCrc := crcStep s.genCrc b, cmdErr := .ok }) ∧
  RefusedAbove 0x2#4 8 ∧
  (∀ (bs : List Byte) (s : State),
    execAll (.crcInit :: bs.map Instr.crcFeed) s = .next { s with genCrc := crc16 bs, cmdErr := .ok })

/-- 41_checksum.md R85: the last clause is its corner case, CRC_VERIFY after the bytes `bs` were fed. -/
def Obligations.CrcVerifyReportsEquality : Prop :=
  (∀ e, encode (.crcVerify e) = .word (0x3#4 ++ e)) ∧
  (∀ e s, s.genCrc = e → exec (.crcVerify e) s = .next { s with crcOk := true, cmdErr := .ok }) ∧
  (∀ e s, s.genCrc ≠ e → exec (.crcVerify e) s = .next { s with crcOk := false, cmdErr := .ok }) ∧
  (∀ (bs : List Byte) (e : BitVec 16) (s : State),
    execAll (.crcInit :: bs.map Instr.crcFeed ++ [.crcVerify e]) s =
      .next { s with genCrc := crc16 bs, crcOk := crcVerify bs e, cmdErr := .ok })

/-- 41_checksum.md R86. -/
def Obligations.FrameWithItsChecksumHasResidueZero : Prop :=
  ∀ F : List Byte, crc16 (F ++ [lo8 (crc16 F), hi8 (crc16 F)]) = 0x0000#16

/-! ### The frame assembler -/

/-- 30_encoding.md R60: the assembled frame, from the request ROM and the CRC unit, is the table's. -/
def Obligations.RequestFramesAreTheTables : Prop :=
  ∀ r ∈ requestTable, requestRom r.txn = r.body ∧ crc16 r.body = r.crc ∧ requestFrame r.txn = r.frame ∧
    txnOfCode r.selector = some r.txn

/-- 42_assembler.md R90. -/
def Obligations.StartAssemblesAndEmitsTheRequest : Prop :=
  (∀ t : BitVec 3, encode (.start t) = .word (0x4#4 ++ 0#13 ++ t)) ∧
  RefusedAbove 0x4#4 3 ∧
  (∀ s, exec (.start 7#3) s = .next { s with cmdErr := .illegal }) ∧
  (∀ (t : BitVec 3) (s : State), t ≠ 7#3 →
    s.st ∈ [Fsm.sent, Fsm.awaitingHeader, Fsm.awaitingBody, Fsm.awaitingChecksum] →
    exec (.start t) s = .next { s with cmdErr := .busy }) ∧
  (∀ r ∈ requestTable, ∀ s : State, s.st ∈ [Fsm.idle, Fsm.complete, Fsm.failed] →
    ∃ t, exec (.start r.selector) s = .next t ∧ Started r s t)

/-- The request-frame rows: running one is running the START that emits it. This is the model's choice
(assumption 7). -/
def Obligations.FrameRowsRunAsTheirStart : Prop :=
  ∀ r ∈ requestTable,
    encode r.instr = .frame r.frame ∧
    (∀ s, exec r.instr s = exec (.start r.selector) s) ∧
    (∀ s : State, s.st ∈ [Fsm.idle, Fsm.complete, Fsm.failed] →
      ∃ t, exec r.instr s = .next t ∧ Started r s t)

/-! ### The frame parser -/

/-- 43_parser.md R100. -/
def Obligations.ClearReturnsToIdle : Prop :=
  encode .clear = .word 0x50000#20 ∧
  RefusedAbove 0x5#4 0 ∧
  (∀ s : State, s.st ∈ [Fsm.sent, Fsm.awaitingHeader, Fsm.awaitingBody, Fsm.awaitingChecksum] →
    exec .clear s = .next { s with cmdErr := .busy }) ∧
  (∀ s : State, s.st ∈ [Fsm.idle, Fsm.complete, Fsm.failed] →
    exec .clear s = .next { s with
      st := .idle
      chkCrc := 0xFFFF#16, rxLen := 0#17, decl := 0#8, hdrIdx := 0#3, bodyRem := 0#8, objRem := 0#8
      tlvPh := .id, valRem := 0#8, csIdx := false, rxCs := 0#16, ovf := false
      errKind := .none, errCause := 0#3, errState := .idle, stray := false
      dout := 0#32, daux := 0#16, dvalid := false, dend := false, warnPtr := 0#9, cmdErr := .ok })

/-- 43_parser.md R101: only transport words move an active transaction, and START and CLEAR are
refused BUSY. -/
def Obligations.ActiveTransactionCannotBeCancelled : Prop :=
  (∀ (i : Instr) (s t : State), s.st.active = true → exec i s = .next t → transportWord i = false →
    t.st = s.st) ∧
  (∀ (c : BitVec 3) (s : State), s.st.active = true → c ≠ 7#3 →
    exec (.start c) s = .next { s with cmdErr := .busy }) ∧
  (∀ s : State, s.st.active = true → exec .clear s = .next { s with cmdErr := .busy }) ∧
  (∀ (i : Instr) (s t : State), s.st.active = true → exec i s = .next t →
    t.st = .idle → False)

/-- 43_parser.md R102. -/
def Obligations.TxDoneAcceptsOrFailsShortWrite : Prop :=
  (∀ n, encode (.txDone n) = .word (0xC#4 ++ 0#12 ++ n)) ∧
  RefusedAbove 0xC#4 4 ∧
  (∀ (n : BitVec 4) (s : State), s.st ≠ .sent →
    exec (.txDone n) s = .next { s with stray := true, cmdErr := .unexpected }) ∧
  (∀ (n : BitVec 4) (s : State), s.st = .sent → n.toNat < s.txLen.toNat →
    exec (.txDone n) s = .next (failed s .sent .transport 2#3)) ∧
  (∀ (n : BitVec 4) (s : State), s.st = .sent → s.txLen.toNat ≤ n.toNat →
    exec (.txDone n) s = .next { s with st := .awaitingHeader, cmdErr := .ok })

/-- 43_parser.md R114. -/
def Obligations.UnexpectedEventsOnlySetStray : Prop :=
  (∀ (n : BitVec 4) (s : State), s.st ≠ .sent →
    exec (.txDone n) s = .next { s with stray := true, cmdErr := .unexpected }) ∧
  (∀ (b : Byte) (s : State), s.st ∈ [Fsm.idle, Fsm.sent, Fsm.complete, Fsm.failed] →
    exec (.rxByte b) s = .next { s with stray := true, cmdErr := .unexpected }) ∧
  (∀ (c : BitVec 3) (s : State), c ∈ [1#3, 3#3, 4#3] → s.st ∈ [Fsm.idle, Fsm.complete, Fsm.failed] →
    exec (.linkFail c) s = .next { s with stray := true, cmdErr := .unexpected })

/-- 43_parser.md R112. -/
def Obligations.LinkFailFailsAnActiveTransaction : Prop :=
  (∀ c, encode (.linkFail c) = .word (0xE#4 ++ 0#13 ++ c)) ∧
  RefusedAbove 0xE#4 3 ∧
  (∀ (c : BitVec 3) (s : State), c ∉ [1#3, 3#3, 4#3] →
    exec (.linkFail c) s = .next { s with cmdErr := .illegal }) ∧
  (∀ (c : BitVec 3) (s : State), c ∈ [1#3, 3#3, 4#3] → s.st.active = true →
    exec (.linkFail c) s = .next (failed s s.st .transport c)) ∧
  (∀ (c : BitVec 3) (s : State), c ∈ [1#3, 3#3, 4#3] → s.st.active = false →
    exec (.linkFail c) s = .next { s with stray := true, cmdErr := .unexpected })

/-- 30_encoding.md R68, R70: the header lengths, and the register counts and body lengths. -/
def Obligations.HeaderAndBodyLengths : Prop :=
  hdrLen .devinfo = 8 ∧ hdrLen .pwrOn = 8 ∧ hdrLen .pwrOff = 8 ∧ hdrLen .pwrState = 3 ∧
  hdrLen .regs = 3 ∧ hdrLen .batt = 3 ∧ hdrLen .warn = 3 ∧
  registerCount .pwrState = 1 ∧ registerCount .regs = 43 ∧ registerCount .batt = 33 ∧
  registerCount .warn = 26 ∧ expLen .pwrState = 2 ∧ expLen .regs = 86 ∧ expLen .batt = 66 ∧ expLen .warn = 52

/-- 43_parser.md R104, R105: a header byte that is not the last. -/
def Obligations.HeaderByteIsTaken : Prop :=
  ∀ (b : Byte) (s : State), s.st = .awaitingHeader → s.rxBuf.wf = true →
    s.hdrIdx.toNat + 1 < hdrLen s.txn →
    ∃ t, exec (.rxByte b) s = .next t ∧ Accepted s t b ∧
      t = { withAccepted s t with hdrIdx := s.hdrIdx + 1#3, cmdErr := .ok }

/-- 43_parser.md R105, R106: the last header byte. The header before it is read from `rx_buf` at the start
of the step (00_scope.md R13, 20_memory.md R55). -/
def Obligations.LastHeaderByteDecides : Prop :=
  ∀ (b : Byte) (s : State), s.st = .awaitingHeader → s.rxBuf.wf = true →
    hdrLen s.txn ≤ s.hdrIdx.toNat + 1 →
    ∃ t, exec (.rxByte b) s = .next t ∧ Accepted s t b ∧
      (¬ HeaderMatches s.txn s.txBuf (s.rxBuf.bytes 0 (hdrLen s.txn - 1) ++ [b]) →
        t = failed { withAccepted s t with hdrIdx := s.hdrIdx + 1#3 } .awaitingHeader
          .protocolMismatch 0#3) ∧
      (HeaderMatches s.txn s.txBuf (s.rxBuf.bytes 0 (hdrLen s.txn - 1) ++ [b]) →
        (isWrite s.txn = true → t = completed { withAccepted s t with hdrIdx := s.hdrIdx + 1#3 }) ∧
        (isRead s.txn = true → t = { withAccepted s t with
          hdrIdx := s.hdrIdx + 1#3, decl := b, bodyRem := b, cmdErr := .ok
          st := if b = 0#8 then .awaitingChecksum else .awaitingBody }) ∧
        (s.txn = .devinfo → t = { withAccepted s t with
          hdrIdx := s.hdrIdx + 1#3, decl := b, objRem := b, tlvPh := .id, cmdErr := .ok
          st := if b = 0#8 then .awaitingChecksum else .awaitingBody }))

/-- 43_parser.md R108. -/
def Obligations.ReadBodyByteCountsDown : Prop :=
  ∀ (b : Byte) (s : State), s.st = .awaitingBody → isRead s.txn = true → s.rxBuf.wf = true →
    s.bodyRem ≠ 0#8 →
    ∃ t, exec (.rxByte b) s = .next t ∧ Accepted s t b ∧
      t = { withAccepted s t with
        bodyRem := s.bodyRem - 1#8, cmdErr := .ok
        st := if s.bodyRem = 1#8 then .awaitingChecksum else .awaitingBody }

/-- 43_parser.md R109. -/
def Obligations.IdentityBodyByteWalksTheObjects : Prop :=
  ∀ (b : Byte) (s : State), s.st = .awaitingBody → s.txn = .devinfo → s.rxBuf.wf = true →
    s.objRem ≠ 0#8 → (s.tlvPh = .val → s.valRem ≠ 0#8) →
    ∃ t, exec (.rxByte b) s = .next t ∧ Accepted s t b ∧
      (s.tlvPh = .id → t = { withAccepted s t with tlvPh := .len, cmdErr := .ok }) ∧
      (s.tlvPh = .len → b ≠ 0#8 →
        t = { withAccepted s t with tlvPh := .val, valRem := b, cmdErr := .ok }) ∧
      (s.tlvPh = .len → b = 0#8 → t = { withAccepted s t with
        tlvPh := .id, objRem := s.objRem - 1#8, cmdErr := .ok
        st := if s.objRem = 1#8 then .awaitingChecksum else .awaitingBody }) ∧
      (s.tlvPh = .val → s.valRem ≠ 1#8 →
        t = { withAccepted s t with valRem := s.valRem - 1#8, cmdErr := .ok }) ∧
      (s.tlvPh = .val → s.valRem = 1#8 → t = { withAccepted s t with
        tlvPh := .id, valRem := 0#8, objRem := s.objRem - 1#8, cmdErr := .ok
        st := if s.objRem = 1#8 then .awaitingChecksum else .awaitingBody })

/-- 43_parser.md R110, R111: the low byte first; a trailer that differs fails CHECKSUM, and one that
matches leads to the decode check, which the two statements below spell out. -/
def Obligations.TrailerIsLatchedAndCompared : Prop :=
  (∀ (b : Byte) (s : State), s.st = .awaitingChecksum → s.csIdx = false →
    exec (.rxByte b) s =
      .next { s with rxCs := s.rxCs.extractLsb' 8 8 ++ b, csIdx := true, cmdErr := .ok }) ∧
  (∀ (b : Byte) (s : State), s.st = .awaitingChecksum → s.csIdx = true →
    s.chkCrc.toNat ≠ (s.rxCs.extractLsb' 0 8).toNat + 256 * b.toNat →
    exec (.rxByte b) s =
      .next (failed { s with rxCs := b ++ s.rxCs.extractLsb' 0 8 } .awaitingChecksum .checksum 0#3)) ∧
  (∀ (b : Byte) (s : State), s.st = .awaitingChecksum → s.csIdx = true →
    s.chkCrc.toNat = (s.rxCs.extractLsb' 0 8).toNat + 256 * b.toNat →
    exec (.rxByte b) s = .next (({ s with rxCs := s.chkCrc } : State).runDecodeCheck))

/-- 43_parser.md R117, R123 for the read transactions, and the overflow of any transaction. -/
def Obligations.MatchingTrailerRunsTheDecodeCheck : Prop :=
  ∀ (b : Byte) (s : State), s.st = .awaitingChecksum → s.csIdx = true →
    s.chkCrc = b ++ s.rxCs.extractLsb' 0 8 →
    (s.ovf = true → exec (.rxByte b) s =
      .next (failed { s with rxCs := s.chkCrc } .awaitingChecksum .decode 4#3)) ∧
    (s.ovf = false → isRead s.txn = true → s.decl.toNat = expLen s.txn →
      exec (.rxByte b) s = .next (completed { s with rxCs := s.chkCrc })) ∧
    (s.ovf = false → isRead s.txn = true → s.decl.toNat ≠ expLen s.txn →
      exec (.rxByte b) s = .next (failed { s with rxCs := s.chkCrc } .awaitingChecksum .decode 1#3))

/-- 43_parser.md R117, R118, R123 for the identity transaction: the first failing object in wire order
decides. -/
def Obligations.IdentityDecodeCheckFindsTheFirstBadObject : Prop :=
  ∀ (b : Byte) (s : State), s.st = .awaitingChecksum → s.csIdx = true → s.txn = .devinfo →
    s.ovf = false → s.chkCrc = b ++ s.rxCs.extractLsb' 0 8 →
    ((∀ o ∈ objects s.rxBuf s.decl, ObjectOk s.rxBuf o) →
      exec (.rxByte b) s = .next (completed { s with rxCs := s.chkCrc })) ∧
    (∀ pre o post, objects s.rxBuf s.decl = pre ++ o :: post → (∀ x ∈ pre, ObjectOk s.rxBuf x) →
      ¬ ObjectOk s.rxBuf o →
      exec (.rxByte b) s =
        .next (failed { s with rxCs := s.chkCrc } .awaitingChecksum .decode (objectCause o)))

/-- 43_parser.md R118: OBJS walks the body from index 8, object after object. -/
def Obligations.ObjectsLieEndToEndFromIndexEight : Prop :=
  ∀ (m : Memory) (decl : BitVec 8),
    (objects m decl).length = decl.toNat ∧
    (∀ o, (objects m decl).head? = some o → o.value.start = 10) ∧
    (∀ o ∈ objects m decl, 10 ≤ o.value.start ∧ o.id = m.read (o.value.start - 2) ∧
      o.value.len = (m.read (o.value.start - 1)).toNat) ∧
    (∀ pre o o' post, objects m decl = pre ++ o :: o' :: post →
      o'.value.start = o.value.start + o.value.len + 2)

/-- 44_decoder.md R143: a field found is the value of the last segment with its key, and every key
that a segment has is found. -/
def Obligations.RecordFieldIsTheLastSegmentWithItsKey : Prop :=
  ∀ (m : Memory) (v : Slice) (k : BitVec 3), k ∈ [1#3, 2#3, 3#3, 4#3, 5#3, 6#3] →
    (∀ f, recordField m v k = some f →
      v.start + 2 ≤ f.start ∧ f.start + f.len ≤ v.start + v.len ∧
      m.read (f.start - 2) = 0x30#8 + k.setWidth 8 ∧ m.read (f.start - 1) = 0x3D#8 ∧
      (f.start = v.start + 2 ∨ m.read (f.start - 3) = 0x3B#8) ∧
      (f.start + f.len = v.start + v.len ∨ m.read (f.start + f.len) = 0x3B#8) ∧
      (∀ j, f.start ≤ j → j < f.start + f.len → m.read j ≠ 0x3B#8) ∧
      (∀ q, f.start ≤ q → q + 1 < v.start + v.len → m.read (q - 1) = 0x3B#8 →
        m.read q = 0x30#8 + k.setWidth 8 → m.read (q + 1) ≠ 0x3D#8)) ∧
    (∀ q, v.start ≤ q → q + 1 < v.start + v.len → (q = v.start ∨ m.read (q - 1) = 0x3B#8) →
      m.read q = 0x30#8 + k.setWidth 8 → m.read (q + 1) = 0x3D#8 →
      (recordField m v k).isSome = true)

/-! ### The register decoder -/

/-- 44_decoder.md R145, and R142's key check before it. -/
def Obligations.DecodeCommandsCheckStateThenTransaction : Prop :=
  (∀ (i r : BitVec 8) (k : BitVec 3), k ∈ [1#3, 2#3, 3#3, 4#3, 5#3, 6#3] →
    ∀ c ∈ decodeCommands i r k, RefusedUnlessComplete c.1 c.2) ∧
  (∀ (r : BitVec 8) (k : BitVec 3) (s : State), k ∉ [1#3, 2#3, 3#3, 4#3, 5#3, 6#3] →
    exec (.decDevrec r k) s = .next { s with cmdErr := .illegal })

/-- 44_decoder.md R126, R127. -/
def Obligations.PowerStateIsReportedWithItsClass : Prop :=
  encode .decPstate = .word 0x60000#20 ∧ RefusedAbove 0x6#4 0 ∧
  RefusedUnlessComplete .decPstate [.pwrState] ∧
  ∀ (s : State) (v : Nat), s.st = .complete → s.txn = .pwrState → v = be16Nat s.rxBuf 3 →
    exec .decPstate s = .next { s with
      dout := BitVec.ofNat 32 v, daux := BitVec.ofNat 16 (if v < 4 then v else 4)
      dvalid := true, dend := false, cmdErr := .ok }

/-- 44_decoder.md R130, R131. -/
def Obligations.FieldIsExtractedFromItsSlot : Prop :=
  (∀ i, encode (.decField i) = .word (0x7#4 ++ 0#8 ++ i)) ∧ RefusedAbove 0x7#4 8 ∧
  (∀ i, RefusedUnlessComplete (.decField i) [.regs, .batt]) ∧
  ∀ (i : BitVec 8) (s : State) (rom : List FieldEntry), s.st = .complete →
    (s.txn = .regs ∧ rom = s.cfg.regRom ∨ s.txn = .batt ∧ rom = s.cfg.battRom) →
    (rom.length ≤ i.toNat → exec (.decField i) s = .next { s with cmdErr := .range }) ∧
    (∀ e : FieldEntry, rom[i.toNat]? = some e →
      exec (.decField i) s = .next { s with
        dout := match e.kind with
          | .u16 _ => BitVec.ofNat 32 (be16Nat s.rxBuf (3 + e.off.toNat))
          | .u32 _ => BitVec.ofNat 32 (be32Nat s.rxBuf (3 + e.off.toNat))
          | .bit p => BitVec.ofNat 32 (be16Nat s.rxBuf (3 + e.off.toNat) / 2 ^ (15 - p.toNat) % 2)
        daux := match e.kind with
          | .u16 c | .u32 c => [1#16, 10#16, 100#16, 1000#16].getD c.toNat 0#16
          | .bit _ => 1#16
        dvalid := true, dend := false, cmdErr := .ok })

/-- 44_decoder.md R136. -/
def Obligations.WarnRestartRewindsTheIterator : Prop :=
  encode .decWarnRestart = .word 0x80000#20 ∧ RefusedAbove 0x8#4 0 ∧
  RefusedUnlessComplete .decWarnRestart [.warn] ∧
  ∀ s : State, s.st = .complete → s.txn = .warn →
    exec .decWarnRestart s = .next { s with
      warnPtr := 0#9, dvalid := false, dend := false, cmdErr := .ok }

/-- 44_decoder.md R137 with the bit test of R139. -/
def Obligations.WarnNextReportsTheNextActiveWarning : Prop :=
  encode .decWarnNext = .word 0x90000#20 ∧ RefusedAbove 0x9#4 0 ∧
  RefusedUnlessComplete .decWarnNext [.warn] ∧
  ∀ s : State, s.st = .complete → s.txn = .warn →
    (∀ (j : Nat) (e : WarnEntry), s.warnPtr.toNat ≤ j → s.cfg.warnRom[j]? = some e →
      be16Nat s.rxBuf (3 + e.off.toNat) / 2 ^ (15 - e.bit.toNat) % 2 = 1 →
      (∀ (n : Nat) (e' : WarnEntry), s.warnPtr.toNat ≤ n → n < j → s.cfg.warnRom[n]? = some e' →
        be16Nat s.rxBuf (3 + e'.off.toNat) / 2 ^ (15 - e'.bit.toNat) % 2 = 0) →
      exec .decWarnNext s = .next { s with
        dout := e.wid.setWidth 32, daux := e.rid, dvalid := true, dend := false
        warnPtr := BitVec.ofNat 9 (j + 1), cmdErr := .ok }) ∧
    ((∀ (n : Nat) (e' : WarnEntry), s.warnPtr.toNat ≤ n → s.cfg.warnRom[n]? = some e' →
        be16Nat s.rxBuf (3 + e'.off.toNat) / 2 ^ (15 - e'.bit.toNat) % 2 = 0) →
      exec .decWarnNext s = .next { s with
        dout := 0#32, daux := 0#16, dvalid := false, dend := true
        warnPtr := BitVec.ofNat 9 s.cfg.warnRom.length, cmdErr := .ok })

/-- 44_decoder.md R138: from the start of the iterator the DEC_WARN_NEXT words report exactly the
active warnings, in ROM order. -/
def Obligations.WarnScanListsTheActiveWarnings : Prop :=
  ∀ (s : State) (n : Nat), s.st = .complete → s.txn = .warn → s.warnPtr = 0#9 →
    s.cfg.warnRom.length < n →
    warnScan n s = (s.cfg.warnRom.filter fun e =>
      decide (be16Nat s.rxBuf (3 + e.off.toNat) / 2 ^ (15 - e.bit.toNat) % 2 = 1)).map
        fun e => (e.wid.setWidth 32, e.rid)

/-- 44_decoder.md R140, R141. -/
def Obligations.DeviceCountIsTheLastCountObject : Prop :=
  encode .decDevcount = .word 0xA0000#20 ∧ RefusedAbove 0xA#4 0 ∧
  RefusedUnlessComplete .decDevcount [.devinfo] ∧
  ∀ (s : State) (os : List TlvObject), s.st = .complete → s.txn = .devinfo →
    os = objects s.rxBuf s.decl →
    (∀ pre o post, os = pre ++ o :: post → o.id = 0x87#8 → (∀ x ∈ post, x.id ≠ 0x87#8) →
      exec .decDevcount s = .next { s with
        dout := BitVec.ofNat 32 (be16Nat s.rxBuf o.value.start)
        daux := BitVec.ofNat 16 (os.countP fun x => x.id != 0x87#8)
        dvalid := true, dend := false, cmdErr := .ok }) ∧
    ((∀ x ∈ os, x.id ≠ 0x87#8) →
      exec .decDevcount s = .next { s with
        dout := 0#32, daux := BitVec.ofNat 16 os.length, dvalid := false, dend := false
        cmdErr := .ok })

/-- 44_decoder.md R142, in the states that the control invariant allows: every field of every record is
present (R144). -/
def Obligations.DeviceRecordFieldIsLocated : Prop :=
  (∀ r k, encode (.decDevrec r k) = .word (0xB#4 ++ 0#5 ++ k ++ r)) ∧ RefusedAbove 0xB#4 11 ∧
  (∀ r k, k ∉ [1#3, 2#3, 3#3, 4#3, 5#3, 6#3] →
    ∀ s, exec (.decDevrec r k) s = .next { s with cmdErr := .illegal }) ∧
  (∀ r k, k ∈ [1#3, 2#3, 3#3, 4#3, 5#3, 6#3] →
    RefusedUnlessComplete (.decDevrec r k) [.devinfo]) ∧
  ∀ (r : BitVec 8) (k : BitVec 3) (s : State) (recs : List TlvObject), ControlInv s →
    s.st = .complete → s.txn = .devinfo → k ∈ [1#3, 2#3, 3#3, 4#3, 5#3, 6#3] →
    recs = (objects s.rxBuf s.decl).filter (fun o => o.id != 0x87#8) →
    (recs.length ≤ r.toNat → exec (.decDevrec r k) s = .next { s with cmdErr := .range }) ∧
    (∀ o, recs[r.toNat]? = some o → ∃ f, recordField s.rxBuf o.value k = some f ∧
      exec (.decDevrec r k) s = .next { s with
        dout := BitVec.ofNat 32 f.start, daux := BitVec.ofNat 16 f.len
        dvalid := true, dend := false, cmdErr := .ok })

/-! ### The host read port and the configuration -/

/-- 10_state.md R37 to R40. -/
def Obligations.HostReadPortMap : Prop :=
  ∀ s : State,
    (hostRead s 0x00#8).extractLsb' 0 3 = fsmCode s.st ∧
    (hostRead s 0x00#8).getLsbD 3 = s.st.active ∧ (hostRead s 0x00#8).getLsbD 4 = s.st.terminal ∧
    (hostRead s 0x00#8).getLsbD 5 = s.crcOk ∧ (hostRead s 0x00#8).getLsbD 6 = s.stray ∧
    (hostRead s 0x00#8).getLsbD 7 = s.ovf ∧ (hostRead s 0x00#8).extractLsb' 8 3 = txnCode s.txn ∧
    (hostRead s 0x00#8).getLsbD 11 = s.dvalid ∧ (hostRead s 0x00#8).getLsbD 12 = s.dend ∧
    (hostRead s 0x00#8).extractLsb' 13 3 = cmdErrCode s.cmdErr ∧
    (hostRead s 0x00#8).extractLsb' 16 16 = 0#16 ∧
    (hostRead s 0x01#8).extractLsb' 0 3 = errKindCode s.errKind ∧
    (hostRead s 0x01#8).extractLsb' 3 3 = s.errCause ∧
    (hostRead s 0x01#8).extractLsb' 6 3 = fsmCode s.errState ∧
    (hostRead s 0x01#8).extractLsb' 9 23 = 0#23 ∧
    hostRead s 0x02#8 = s.genCrc.setWidth 32 ∧ hostRead s 0x03#8 = s.chkCrc.setWidth 32 ∧
    hostRead s 0x04#8 = s.rxCs.setWidth 32 ∧ hostRead s 0x05#8 = s.rxLen.setWidth 32 ∧
    hostRead s 0x06#8 = s.decl.setWidth 32 ∧
    (hostRead s 0x07#8).extractLsb' 0 3 = s.hdrIdx ∧ (hostRead s 0x07#8).getLsbD 3 = s.csIdx ∧
    (hostRead s 0x07#8).extractLsb' 4 2 = tlvPhaseCode s.tlvPh ∧
    (hostRead s 0x07#8).extractLsb' 6 2 = 0#2 ∧ (hostRead s 0x07#8).extractLsb' 8 8 = s.bodyRem ∧
    (hostRead s 0x07#8).extractLsb' 16 8 = s.objRem ∧ (hostRead s 0x07#8).extractLsb' 24 8 = s.valRem ∧
    hostRead s 0x08#8 = s.dout ∧ hostRead s 0x09#8 = s.daux.setWidth 32 ∧
    hostRead s 0x0A#8 = s.warnPtr.setWidth 32 ∧ hostRead s 0x0B#8 = s.txLen.setWidth 32 ∧
    (∀ j : Fin 4, (hostRead s 0x0C#8).extractLsb' (8 * j.val) 8 = s.txBuf[j.val]) ∧
    (∀ j : Fin 4, (hostRead s 0x0D#8).extractLsb' (8 * j.val) 8 = s.txBuf[j.val + 4]) ∧
    (∀ a : BitVec 8, 0x0D#8 < a → hostRead s a = 0#32) ∧
    (∀ a ∈ [0x00#8, 0x01#8, 0x07#8], hostRead State.reset a = 0#32)

/-- 10_state.md R41. -/
def Obligations.RxWindowShowsStoredBytesOnly : Prop :=
  ∀ (s : State) (i : BitVec 17),
    (i.toNat < s.rxLen.toNat → i.toNat < s.cfg.rxbufCap → rxWindow s i = s.rxBuf.read i.toNat) ∧
    (s.rxLen.toNat ≤ i.toNat ∨ s.cfg.rxbufCap ≤ i.toNat → rxWindow s i = 0x00#8)

/-- 44_decoder.md R129, R135 and 00_scope.md R7: exactly the well-formed configurations are loaded. That
an RXBUF_CAP outside its bounds is refused like an ill-formed ROM is deduced (assumption 5). -/
def Obligations.IllFormedConfigurationsAreRefused : Prop :=
  ∀ (s : State) (img : ConfigImage),
    (¬ ImageOk img → s.configure img = .refused .illFormedConfiguration) ∧
    (ImageOk img → ∃ c : Config, s.configure img = .next { s with cfg := c } ∧
      c.rxbufCap = img.rxbufCap ∧ c.regRom.map fieldEntryWord = img.regRom ∧
      c.battRom.map fieldEntryWord = img.battRom ∧ c.warnRom.map warnEntryWord = img.warnRom)

/-- 44_decoder.md R128, R134: an entry is read back from its word. -/
def Obligations.RomEntriesReadBackFromTheirWords : Prop :=
  (∀ e : FieldEntry, fieldEntryOfWord (fieldEntryWord e) = some e) ∧
  (∀ (w : BitVec 32) (e : FieldEntry), fieldEntryOfWord w = some e → fieldEntryWord e = w) ∧
  (∀ e : WarnEntry, warnEntryOfWord (warnEntryWord e) = some e) ∧
  (∀ (w : BitVec 48) (e : WarnEntry), warnEntryOfWord w = some e → warnEntryWord e = w)

/-- 10_state.md R44: no step writes the configuration. -/
def Obligations.NoStepWritesTheConfiguration : Prop :=
  ∀ s t : State, step s = .next t → t.cfg = s.cfg

/-! ### Rules of the whole machine -/

/-- 60_exceptions.md R146, R148: whatever fails a transaction records its kind, its cause and the state
it was found in, and emits `close`. -/
def Obligations.EveryFailureIsRecordedAndClosed : Prop :=
  ∀ (i : Instr) (s t : State), exec i s = .next t → s.st ≠ .failed → t.st = .failed →
    t.errState = s.st ∧ t.cmdErr = .ok ∧ t.events = s.events ++ [.close] ∧
    t.txn = s.txn ∧ t.txBuf = s.txBuf ∧ t.txLen = s.txLen ∧
    ((∃ c ∈ [1#3, 3#3, 4#3], i = .linkFail c ∧ s.st.active = true ∧ t.errKind = .transport ∧
        t.errCause = c) ∨
     (∃ n : BitVec 4, i = .txDone n ∧ n.toNat < s.txLen.toNat ∧ s.st = .sent ∧
        t.errKind = .transport ∧ t.errCause = 2#3) ∨
     (∃ b, i = .rxByte b ∧ s.st = .awaitingHeader ∧ t.errKind = .protocolMismatch ∧
        t.errCause = 0#3) ∨
     (∃ b, i = .rxByte b ∧ s.st = .awaitingChecksum ∧ t.errKind = .checksum ∧ t.rxCs ≠ t.chkCrc ∧
        t.errCause = 0#3) ∨
     (∃ b, i = .rxByte b ∧ s.st = .awaitingChecksum ∧ t.errKind = .decode ∧ t.rxCs = t.chkCrc ∧
        t.errCause ∈ [1#3, 2#3, 3#3, 4#3]))

/-- 60_exceptions.md R149: a terminal state is left by CLEAR, START and RESET only, which clear the failure
record, and no failure is raised in one. -/
def Obligations.FailuresAreLeftByClearStartOrResetOnly : Prop :=
  (∀ (i : Instr) (s t : State), s.st.terminal = true → exec i s = .next t →
    (t.st = s.st ∧ t.errKind = s.errKind ∧ t.errCause = s.errCause ∧ t.errState = s.errState ∧
      t.events = s.events) ∨
    (i = .clear ∧ t.st = .idle ∧ NoFailure t) ∨
    (startWord i = true ∧ t.st = .sent ∧ NoFailure t)) ∧
  (∀ s : State, s.st.terminal = true → ∃ t, exec .clear s = .next t ∧ t.st = .idle ∧ NoFailure t) ∧
  (∀ (c : BitVec 3) (s : State), c ≠ 7#3 → s.st.terminal = true →
    ∃ t, exec (.start c) s = .next t ∧ t.st = .sent ∧ NoFailure t) ∧
  (∀ (s : State) (rest : List Input), s.input = .reset :: rest →
    ∃ t, step s = .next t ∧ t.st = .idle ∧ NoFailure t)

/-- 43_parser.md R115: the transitions of the FSM. -/
def Obligations.FsmMovesAsTheTransitionTableSays : Prop :=
  ∀ (i : Instr) (s t : State), exec i s = .next t →
    t.st = s.st ∨
    (startWord i = true ∧ s.st.active = false ∧ t.st = .sent) ∨
    (i = .clear ∧ s.st.active = false ∧ t.st = .idle) ∨
    (∃ n, i = .txDone n ∧ s.st = .sent ∧ (t.st = .awaitingHeader ∨ t.st = .failed)) ∨
    (∃ b, i = .rxByte b ∧ s.st = .awaitingHeader ∧
      (t.st = .awaitingBody ∨ t.st = .awaitingChecksum ∨ t.st = .complete ∨ t.st = .failed)) ∨
    (∃ b, i = .rxByte b ∧ s.st = .awaitingBody ∧ t.st = .awaitingChecksum) ∨
    (∃ b, i = .rxByte b ∧ s.st = .awaitingChecksum ∧ (t.st = .complete ∨ t.st = .failed)) ∨
    (∃ c, i = .linkFail c ∧ s.st.active = true ∧ t.st = .failed)

/-- 42_assembler.md R97, 43_parser.md R116, 60_exceptions.md R152: what a word emits. -/
def Obligations.EventsComeOnlyFromStartAndTerminalEntry : Prop :=
  ∀ (i : Instr) (s t : State), exec i s = .next t →
    (t.events = s.events ∧ (t.st.terminal = true → s.st.terminal = true)) ∨
    (t.events = s.events ++ [.close] ∧ s.st.active = true ∧ t.st.terminal = true) ∨
    (t.events = s.events ++ [.txFrame t.txFrame] ∧ startWord i = true ∧ s.st.active = false ∧
      t.st = .sent)

/-- 60_exceptions.md R151: a host CRC or decode command changes no parser register, whenever it comes. -/
def Obligations.HostQueriesLeaveTheTransactionAlone : Prop :=
  ∀ (i : Instr) (s t : State), hostQuery i = true → exec i s = .next t →
    t = { s with
      genCrc := t.genCrc, crcOk := t.crcOk, cmdErr := t.cmdErr
      dout := t.dout, daux := t.daux, dvalid := t.dvalid, dend := t.dend, warnPtr := t.warnPtr }

/-- 60_exceptions.md R151, 41_checksum.md R83: what the host's commands write does not reach the
transport words, which answer the same whatever those registers hold. -/
def Obligations.TransportWordsIgnoreTheHostsRegisters : Prop :=
  ∀ (i : Instr) (s : State) (g : BitVec 16) (c v e : Bool) (d : BitVec 32) (a : BitVec 16) (k : CmdErr),
    transportWord i = true →
    exec i { s with genCrc := g, crcOk := c, dout := d, daux := a, dvalid := v, dend := e, cmdErr := k } =
      match exec i s with
      | .next t => .next { t with genCrc := g, crcOk := c, dout := d, daux := a, dvalid := v, dend := e }
      | .fault r => .fault r
      | .refused r => .refused r

/-- 10_state.md R36, 70_reset_and_hazards.md R173: every word overwrites `cmd_err`. -/
def Obligations.EveryWordOverwritesCmdErr : Prop :=
  ∀ (i : Instr) (s : State) (c : CmdErr), exec i { s with cmdErr := c } = exec i s

/-! ### Invariants -/

/-- The state after reset keeps all the invariants. -/
def Obligations.ResetStateKeepsTheInvariants : Prop :=
  MemoryInv State.reset ∧ StateInv State.reset ∧ CrcInv State.reset ∧ EventInv State.reset

/-- The RX buffer's memory keeps its canonical form, inside the capacity (10_state.md R24). -/
def Obligations.StepKeepsTheMemoryInvariant : Prop :=
  ∀ s t : State, MemoryInv s → step s = .next t → MemoryInv t

/-- 10_state.md R45 c to f. -/
def Obligations.StepKeepsTheStateInvariant : Prop :=
  ∀ s t : State, StateInv s → step s = .next t → StateInv t

/-- 00_scope.md R12: the step is total, in every state and on every input, and emits at most two events. -/
def Obligations.EveryStepHasAResult : Prop :=
  ∀ s : State, ∃ (t : State) (outs : List Event),
    step s = .next t ∧ t.events = s.events ++ outs ∧ outs.length ≤ 2

/-- 10_state.md R45 b, 41_checksum.md R88. -/
def Obligations.StepKeepsTheChecksumInvariant : Prop :=
  ∀ s t : State, CrcInv s → step s = .next t → CrcInv t

/-- 43_parser.md R116, 42_assembler.md R99, 10_state.md R45 g. -/
def Obligations.StepKeepsTheEventInvariant : Prop :=
  ∀ s t : State, EventInv s → step s = .next t → EventInv t

/-! ### Whole responses -/

/-- 30_encoding.md R65 with 43_parser.md R111, R117: a register-read response with its checksum
completes, and any other trailer fails CHECKSUM. -/
def Obligations.ReadResponseCompletesWithItsChecksumOnly : Prop :=
  ∀ (s : State) (body f : List Byte), AtFirstByte s → isRead s.txn = true →
    body.length = expLen s.txn →
    f = [0x01#8, 0x03#8, BitVec.ofNat 8 (expLen s.txn)] ++ body →
    (∃ t, receive (f ++ [lo8 (crc16 f), hi8 (crc16 f)]) s = .next t ∧ t.st = .complete ∧
      t.received = f ∧ t.decl.toNat = expLen s.txn ∧ t.events = s.events ++ [.close]) ∧
    (∀ lo hi : Byte, [lo, hi] ≠ [lo8 (crc16 f), hi8 (crc16 f)] →
      ∃ t, receive (f ++ [lo, hi]) s = .next t ∧ t.st = .failed ∧ t.errKind = .checksum ∧
        t.received = f ∧ t.events = s.events ++ [.close])

/-- 30_encoding.md R66, with the failure kind of 43_parser.md R106, the bytes kept of R120 and the one
`close` of R116. -/
def Obligations.WriteCompletesOnTheExactEchoOnly : Prop :=
  ∀ (s : State) (bs : List Byte), AtFirstByte s → isWrite s.txn = true → bs.length = 8 →
    ∃ t, receive bs s = .next t ∧ t.received = bs ∧ t.events = s.events ++ [.close] ∧
      (bs = s.txBuf.toList → t.st = .complete) ∧
      (bs ≠ s.txBuf.toList → t.st = .failed ∧ t.errKind = .protocolMismatch)

/-- 30_encoding.md R64, R67 with 43_parser.md R109, R118: an identity response that fits the RX buffer is
taken apart into the objects it was made of, whatever header bytes 5 and 6 are. -/
def Obligations.IdentityResponseIsTakenApartIntoItsObjects : Prop :=
  ∀ (s : State) (x y : Byte) (objs : List (Byte × List Byte)) (f : List Byte), AtFirstByte s →
    s.txn = .devinfo → objs.length ≤ 255 → (∀ o ∈ objs, o.2.length ≤ 255) →
    f = [0x01#8, 0x2B#8, 0x0E#8, 0x03#8, 0x03#8, x, y, BitVec.ofNat 8 objs.length]
      ++ identityBody objs →
    f.length ≤ s.cfg.rxbufCap →
    ∃ t, receive (f ++ [lo8 (crc16 f), hi8 (crc16 f)]) s = .next t ∧ t.received = f ∧
      (objects t.rxBuf t.decl).map (fun o => (o.id, t.rxBuf.bytes o.value.start o.value.len)) = objs ∧
      t.events = s.events ++ [.close] ∧
      ((∀ o ∈ objects t.rxBuf t.decl, ObjectOk t.rxBuf o) → t.st = .complete) ∧
      ((∃ o ∈ objects t.rxBuf t.decl, ¬ ObjectOk t.rxBuf o) →
        t.st = .failed ∧ t.errKind = .decode)
end

