-- ==== Sys2Proof/Laws/Memory.lean ====
section
/-! SUPPORT. The laws of the RX buffer's memory: what a write changes, and that it keeps the canonical
form. -/

namespace Sys2Proof.Machine

@[simp] theorem Memory.read_nil (i : Nat) : Memory.read [] i = unlistedByte := rfl

theorem Memory.read_cons (a : Nat) (b : Byte) (m : Memory) (i : Nat) :
    Memory.read ((a, b) :: m) i = if a = i then b else Memory.read m i := rfl

/-- Below its first listed index a canonical memory lists nothing. -/
theorem Memory.read_below {m : Memory} {lo i : Nat} (h : Memory.wfFrom lo m = true) (hi : i < lo) :
    m.read i = unlistedByte := by
  induction m generalizing lo with
  | nil => rfl
  | cons c m ih =>
    obtain ⟨a, b⟩ := c
    simp only [Memory.wfFrom, Bool.and_eq_true, decide_eq_true_eq] at h
    rw [Memory.read_cons, if_neg (by omega)]
    exact ih h.2 (by omega)

/-- A canonical memory stays canonical from any lower index. -/
theorem Memory.wfFrom_mono {m : Memory} {lo lo' : Nat} (h : Memory.wfFrom lo m = true)
    (hl : lo' ≤ lo) : Memory.wfFrom lo' m = true := by
  cases m with
  | nil => rfl
  | cons c m =>
    obtain ⟨a, b⟩ := c
    simp only [Memory.wfFrom, Bool.and_eq_true, decide_eq_true_eq] at h ⊢
    exact ⟨⟨by omega, h.1.2⟩, h.2⟩

theorem cellFor_wfFrom {m : Memory} {lo i : Nat} (b : Byte) (h : Memory.wfFrom (i + 1) m = true)
    (hi : lo ≤ i) : Memory.wfFrom lo (cellFor i b ++ m) = true := by
  unfold cellFor
  split
  · exact Memory.wfFrom_mono h (by omega)
  · rename_i hb
    simp [Memory.wfFrom, h, hi, hb]

/-- A write keeps the canonical form from an index on. -/
theorem Memory.write_wfFrom {m : Memory} {lo i : Nat} {b : Byte} (h : Memory.wfFrom lo m = true)
    (hi : lo ≤ i) : Memory.wfFrom lo (m.write i b) = true := by
  induction m generalizing lo with
  | nil => simpa [Memory.write] using cellFor_wfFrom (m := []) b rfl hi
  | cons c m ih =>
    obtain ⟨a, c⟩ := c
    simp only [Memory.wfFrom, Bool.and_eq_true, decide_eq_true_eq] at h
    simp only [Memory.write]
    split
    · refine cellFor_wfFrom b ?_ hi
      simp only [Memory.wfFrom, Bool.and_eq_true, decide_eq_true_eq]
      exact ⟨⟨by omega, h.1.2⟩, h.2⟩
    · split
      · rename_i hia
        subst hia
        exact cellFor_wfFrom b h.2 hi
      · simp only [Memory.wfFrom, Bool.and_eq_true, decide_eq_true_eq]
        exact ⟨⟨h.1.1, h.1.2⟩, ih h.2 (by omega)⟩

/-- A write keeps the canonical form. -/
theorem Memory.write_wf {m : Memory} (i : Nat) (b : Byte) (h : m.wf = true) :
    (m.write i b).wf = true :=
  Memory.write_wfFrom h (Nat.zero_le i)

/-- The memory of the state after reset is canonical. -/
theorem reset_memory_wf : State.reset.rxBuf.wf = true := rfl

theorem cellFor_read_self {m : Memory} {i : Nat} (b : Byte) (h : m.read i = unlistedByte) :
    Memory.read (cellFor i b ++ m) i = b := by
  unfold cellFor
  split
  · rename_i hb
    simpa [hb] using h
  · simp [Memory.read_cons]

theorem cellFor_read_other {m : Memory} {i j : Nat} (b : Byte) (h : j ≠ i) :
    Memory.read (cellFor i b ++ m) j = m.read j := by
  unfold cellFor
  split
  · rfl
  · simp [Memory.read_cons, Ne.symm h]

/-- Reading back the byte just written. -/
theorem Memory.read_write_self {m : Memory} {lo i : Nat} {b : Byte}
    (h : Memory.wfFrom lo m = true) : (m.write i b).read i = b := by
  induction m generalizing lo with
  | nil => simpa [Memory.write] using cellFor_read_self (m := []) (i := i) b rfl
  | cons c m ih =>
    obtain ⟨a, c⟩ := c
    simp only [Memory.wfFrom, Bool.and_eq_true, decide_eq_true_eq] at h
    simp only [Memory.write]
    split
    · refine cellFor_read_self b ?_
      rw [Memory.read_cons, if_neg (by omega)]
      exact Memory.read_below h.2 (by omega)
    · split
      · rename_i hia
        subst hia
        exact cellFor_read_self b (Memory.read_below h.2 (by omega))
      · rename_i hne
        rw [Memory.read_cons, if_neg (fun he => hne he.symm)]
        exact ih h.2

/-- A write leaves every other index alone. -/
theorem Memory.read_write_other (m : Memory) {i j : Nat} (b : Byte) (hj : j ≠ i) :
    (m.write i b).read j = m.read j := by
  induction m with
  | nil => simpa [Memory.write] using cellFor_read_other (m := []) b hj
  | cons c m ih =>
    obtain ⟨a, c⟩ := c
    simp only [Memory.write]
    split
    · exact cellFor_read_other b hj
    · split
      · rename_i hia
        subst hia
        rw [cellFor_read_other b hj, Memory.read_cons, if_neg (fun he => hj he.symm)]
      · rw [Memory.read_cons, Memory.read_cons, ih]

/-- Every index a write lists was listed before or is the one written. -/
theorem Memory.mem_write {m : Memory} {i : Nat} {b : Byte} {c : Host.Cell} (h : c ∈ m.write i b) :
    c ∈ m ∨ c.1 = i := by
  have hcell : ∀ m' : Memory, c ∈ cellFor i b ++ m' → c ∈ m' ∨ c.1 = i := by
    intro m' hc
    unfold cellFor at hc
    split at hc
    · exact .inl hc
    · rcases List.mem_cons.1 hc with rfl | hc
      · exact .inr rfl
      · exact .inl hc
  induction m with
  | nil => exact hcell [] (by simpa [Memory.write] using h)
  | cons d m ih =>
    obtain ⟨a, d⟩ := d
    simp only [Memory.write] at h
    split at h
    · exact hcell _ h
    · split at h
      · exact (hcell _ h).imp_left (List.mem_cons_of_mem _)
      · rcases List.mem_cons.1 h with rfl | h
        · exact .inl List.mem_cons_self
        · exact (ih h).imp_left (List.mem_cons_of_mem _)

@[simp] theorem Memory.bytes_zero (m : Memory) (i : Nat) : m.bytes i 0 = [] := rfl

theorem Memory.bytes_succ (m : Memory) (i n : Nat) :
    m.bytes i (n + 1) = m.read i :: m.bytes (i + 1) n := rfl

@[simp] theorem Memory.bytes_length (m : Memory) (i n : Nat) : (m.bytes i n).length = n := by
  induction n generalizing i with
  | zero => rfl
  | succ n ih => simp [Memory.bytes_succ, ih]

/-- The last of a stretch of bytes, split off. -/
theorem Memory.bytes_snoc (m : Memory) (i n : Nat) :
    m.bytes i (n + 1) = m.bytes i n ++ [m.read (i + n)] := by
  induction n generalizing i with
  | zero => simp [Memory.bytes]
  | succ n ih =>
    rw [Memory.bytes_succ, ih (i + 1), Memory.bytes_succ m i n]
    simp [Nat.add_assoc, Nat.add_comm 1 n]

/-- A write past a stretch of bytes leaves it alone. -/
theorem Memory.bytes_write_after (m : Memory) {i n j : Nat} (b : Byte) (h : i + n ≤ j) :
    (m.write j b).bytes i n = m.bytes i n := by
  induction n generalizing i with
  | zero => rfl
  | succ n ih =>
    rw [Memory.bytes_succ, Memory.bytes_succ, ih (by omega),
      Memory.read_write_other m b (by omega)]

/-- Two bytes put together, as a number. -/
theorem append_byte_toNat {n : Nat} (a : BitVec n) (b : Byte) :
    (a ++ b).toNat = a.toNat * 256 + b.toNat := by
  rw [BitVec.toNat_append, ← Nat.shiftLeft_add_eq_or_of_lt b.isLt, Nat.shiftLeft_eq]

/-- A two-byte field as a number (00_scope.md R11). -/
theorem Memory.be16_toNat (m : Memory) (i : Nat) :
    (m.be16 i).toNat = (m.read i).toNat * 256 + (m.read (i + 1)).toNat :=
  append_byte_toNat _ _

/-- A four-byte field as a number (00_scope.md R11). -/
theorem Memory.be32_toNat (m : Memory) (i : Nat) :
    (m.be32 i).toNat = (((m.read i).toNat * 256 + (m.read (i + 1)).toNat) * 256
      + (m.read (i + 2)).toNat) * 256 + (m.read (i + 3)).toNat := by
  rw [← append_byte_toNat, ← append_byte_toNat, ← append_byte_toNat]
  rfl

end Sys2Proof.Machine
end

