-- ==== Sys2Proof/Laws/State.lean ====
section
/-! SUPPORT. What each update of the state does to each field: one lemma a field and update. -/

namespace Sys2Proof.Machine

@[simp] theorem State.refuse_st (s : State) (c : CmdErr) :
    (s.refuse c).st = s.st := rfl
@[simp] theorem State.refuse_txn (s : State) (c : CmdErr) :
    (s.refuse c).txn = s.txn := rfl
@[simp] theorem State.refuse_genCrc (s : State) (c : CmdErr) :
    (s.refuse c).genCrc = s.genCrc := rfl
@[simp] theorem State.refuse_crcOk (s : State) (c : CmdErr) :
    (s.refuse c).crcOk = s.crcOk := rfl
@[simp] theorem State.refuse_txBuf (s : State) (c : CmdErr) :
    (s.refuse c).txBuf = s.txBuf := rfl
@[simp] theorem State.refuse_txLen (s : State) (c : CmdErr) :
    (s.refuse c).txLen = s.txLen := rfl
@[simp] theorem State.refuse_chkCrc (s : State) (c : CmdErr) :
    (s.refuse c).chkCrc = s.chkCrc := rfl
@[simp] theorem State.refuse_rxBuf (s : State) (c : CmdErr) :
    (s.refuse c).rxBuf = s.rxBuf := rfl
@[simp] theorem State.refuse_rxLen (s : State) (c : CmdErr) :
    (s.refuse c).rxLen = s.rxLen := rfl
@[simp] theorem State.refuse_decl (s : State) (c : CmdErr) :
    (s.refuse c).decl = s.decl := rfl
@[simp] theorem State.refuse_hdrIdx (s : State) (c : CmdErr) :
    (s.refuse c).hdrIdx = s.hdrIdx := rfl
@[simp] theorem State.refuse_bodyRem (s : State) (c : CmdErr) :
    (s.refuse c).bodyRem = s.bodyRem := rfl
@[simp] theorem State.refuse_objRem (s : State) (c : CmdErr) :
    (s.refuse c).objRem = s.objRem := rfl
@[simp] theorem State.refuse_tlvPh (s : State) (c : CmdErr) :
    (s.refuse c).tlvPh = s.tlvPh := rfl
@[simp] theorem State.refuse_valRem (s : State) (c : CmdErr) :
    (s.refuse c).valRem = s.valRem := rfl
@[simp] theorem State.refuse_csIdx (s : State) (c : CmdErr) :
    (s.refuse c).csIdx = s.csIdx := rfl
@[simp] theorem State.refuse_rxCs (s : State) (c : CmdErr) :
    (s.refuse c).rxCs = s.rxCs := rfl
@[simp] theorem State.refuse_ovf (s : State) (c : CmdErr) :
    (s.refuse c).ovf = s.ovf := rfl
@[simp] theorem State.refuse_errKind (s : State) (c : CmdErr) :
    (s.refuse c).errKind = s.errKind := rfl
@[simp] theorem State.refuse_errCause (s : State) (c : CmdErr) :
    (s.refuse c).errCause = s.errCause := rfl
@[simp] theorem State.refuse_errState (s : State) (c : CmdErr) :
    (s.refuse c).errState = s.errState := rfl
@[simp] theorem State.refuse_stray (s : State) (c : CmdErr) :
    (s.refuse c).stray = s.stray := rfl
@[simp] theorem State.refuse_cmdErr (s : State) (c : CmdErr) :
    (s.refuse c).cmdErr = c := rfl
@[simp] theorem State.refuse_dout (s : State) (c : CmdErr) :
    (s.refuse c).dout = s.dout := rfl
@[simp] theorem State.refuse_daux (s : State) (c : CmdErr) :
    (s.refuse c).daux = s.daux := rfl
@[simp] theorem State.refuse_dvalid (s : State) (c : CmdErr) :
    (s.refuse c).dvalid = s.dvalid := rfl
@[simp] theorem State.refuse_dend (s : State) (c : CmdErr) :
    (s.refuse c).dend = s.dend := rfl
@[simp] theorem State.refuse_warnPtr (s : State) (c : CmdErr) :
    (s.refuse c).warnPtr = s.warnPtr := rfl
@[simp] theorem State.refuse_cfg (s : State) (c : CmdErr) :
    (s.refuse c).cfg = s.cfg := rfl
@[simp] theorem State.refuse_input (s : State) (c : CmdErr) :
    (s.refuse c).input = s.input := rfl
@[simp] theorem State.refuse_events (s : State) (c : CmdErr) :
    (s.refuse c).events = s.events := rfl

@[simp] theorem State.noteUnexpected_st (s : State) :
    (s.noteUnexpected).st = s.st := rfl
@[simp] theorem State.noteUnexpected_txn (s : State) :
    (s.noteUnexpected).txn = s.txn := rfl
@[simp] theorem State.noteUnexpected_genCrc (s : State) :
    (s.noteUnexpected).genCrc = s.genCrc := rfl
@[simp] theorem State.noteUnexpected_crcOk (s : State) :
    (s.noteUnexpected).crcOk = s.crcOk := rfl
@[simp] theorem State.noteUnexpected_txBuf (s : State) :
    (s.noteUnexpected).txBuf = s.txBuf := rfl
@[simp] theorem State.noteUnexpected_txLen (s : State) :
    (s.noteUnexpected).txLen = s.txLen := rfl
@[simp] theorem State.noteUnexpected_chkCrc (s : State) :
    (s.noteUnexpected).chkCrc = s.chkCrc := rfl
@[simp] theorem State.noteUnexpected_rxBuf (s : State) :
    (s.noteUnexpected).rxBuf = s.rxBuf := rfl
@[simp] theorem State.noteUnexpected_rxLen (s : State) :
    (s.noteUnexpected).rxLen = s.rxLen := rfl
@[simp] theorem State.noteUnexpected_decl (s : State) :
    (s.noteUnexpected).decl = s.decl := rfl
@[simp] theorem State.noteUnexpected_hdrIdx (s : State) :
    (s.noteUnexpected).hdrIdx = s.hdrIdx := rfl
@[simp] theorem State.noteUnexpected_bodyRem (s : State) :
    (s.noteUnexpected).bodyRem = s.bodyRem := rfl
@[simp] theorem State.noteUnexpected_objRem (s : State) :
    (s.noteUnexpected).objRem = s.objRem := rfl
@[simp] theorem State.noteUnexpected_tlvPh (s : State) :
    (s.noteUnexpected).tlvPh = s.tlvPh := rfl
@[simp] theorem State.noteUnexpected_valRem (s : State) :
    (s.noteUnexpected).valRem = s.valRem := rfl
@[simp] theorem State.noteUnexpected_csIdx (s : State) :
    (s.noteUnexpected).csIdx = s.csIdx := rfl
@[simp] theorem State.noteUnexpected_rxCs (s : State) :
    (s.noteUnexpected).rxCs = s.rxCs := rfl
@[simp] theorem State.noteUnexpected_ovf (s : State) :
    (s.noteUnexpected).ovf = s.ovf := rfl
@[simp] theorem State.noteUnexpected_errKind (s : State) :
    (s.noteUnexpected).errKind = s.errKind := rfl
@[simp] theorem State.noteUnexpected_errCause (s : State) :
    (s.noteUnexpected).errCause = s.errCause := rfl
@[simp] theorem State.noteUnexpected_errState (s : State) :
    (s.noteUnexpected).errState = s.errState := rfl
@[simp] theorem State.noteUnexpected_stray (s : State) :
    (s.noteUnexpected).stray = true := rfl
@[simp] theorem State.noteUnexpected_cmdErr (s : State) :
    (s.noteUnexpected).cmdErr = .unexpected := rfl
@[simp] theorem State.noteUnexpected_dout (s : State) :
    (s.noteUnexpected).dout = s.dout := rfl
@[simp] theorem State.noteUnexpected_daux (s : State) :
    (s.noteUnexpected).daux = s.daux := rfl
@[simp] theorem State.noteUnexpected_dvalid (s : State) :
    (s.noteUnexpected).dvalid = s.dvalid := rfl
@[simp] theorem State.noteUnexpected_dend (s : State) :
    (s.noteUnexpected).dend = s.dend := rfl
@[simp] theorem State.noteUnexpected_warnPtr (s : State) :
    (s.noteUnexpected).warnPtr = s.warnPtr := rfl
@[simp] theorem State.noteUnexpected_cfg (s : State) :
    (s.noteUnexpected).cfg = s.cfg := rfl
@[simp] theorem State.noteUnexpected_input (s : State) :
    (s.noteUnexpected).input = s.input := rfl
@[simp] theorem State.noteUnexpected_events (s : State) :
    (s.noteUnexpected).events = s.events := rfl

@[simp] theorem State.fail_st (s : State) (k : ErrKind) (c : BitVec 3) :
    (s.fail k c).st = .failed := rfl
@[simp] theorem State.fail_txn (s : State) (k : ErrKind) (c : BitVec 3) :
    (s.fail k c).txn = s.txn := rfl
@[simp] theorem State.fail_genCrc (s : State) (k : ErrKind) (c : BitVec 3) :
    (s.fail k c).genCrc = s.genCrc := rfl
@[simp] theorem State.fail_crcOk (s : State) (k : ErrKind) (c : BitVec 3) :
    (s.fail k c).crcOk = s.crcOk := rfl
@[simp] theorem State.fail_txBuf (s : State) (k : ErrKind) (c : BitVec 3) :
    (s.fail k c).txBuf = s.txBuf := rfl
@[simp] theorem State.fail_txLen (s : State) (k : ErrKind) (c : BitVec 3) :
    (s.fail k c).txLen = s.txLen := rfl
@[simp] theorem State.fail_chkCrc (s : State) (k : ErrKind) (c : BitVec 3) :
    (s.fail k c).chkCrc = s.chkCrc := rfl
@[simp] theorem State.fail_rxBuf (s : State) (k : ErrKind) (c : BitVec 3) :
    (s.fail k c).rxBuf = s.rxBuf := rfl
@[simp] theorem State.fail_rxLen (s : State) (k : ErrKind) (c : BitVec 3) :
    (s.fail k c).rxLen = s.rxLen := rfl
@[simp] theorem State.fail_decl (s : State) (k : ErrKind) (c : BitVec 3) :
    (s.fail k c).decl = s.decl := rfl
@[simp] theorem State.fail_hdrIdx (s : State) (k : ErrKind) (c : BitVec 3) :
    (s.fail k c).hdrIdx = s.hdrIdx := rfl
@[simp] theorem State.fail_bodyRem (s : State) (k : ErrKind) (c : BitVec 3) :
    (s.fail k c).bodyRem = s.bodyRem := rfl
@[simp] theorem State.fail_objRem (s : State) (k : ErrKind) (c : BitVec 3) :
    (s.fail k c).objRem = s.objRem := rfl
@[simp] theorem State.fail_tlvPh (s : State) (k : ErrKind) (c : BitVec 3) :
    (s.fail k c).tlvPh = s.tlvPh := rfl
@[simp] theorem State.fail_valRem (s : State) (k : ErrKind) (c : BitVec 3) :
    (s.fail k c).valRem = s.valRem := rfl
@[simp] theorem State.fail_csIdx (s : State) (k : ErrKind) (c : BitVec 3) :
    (s.fail k c).csIdx = s.csIdx := rfl
@[simp] theorem State.fail_rxCs (s : State) (k : ErrKind) (c : BitVec 3) :
    (s.fail k c).rxCs = s.rxCs := rfl
@[simp] theorem State.fail_ovf (s : State) (k : ErrKind) (c : BitVec 3) :
    (s.fail k c).ovf = s.ovf := rfl
@[simp] theorem State.fail_errKind (s : State) (k : ErrKind) (c : BitVec 3) :
    (s.fail k c).errKind = k := rfl
@[simp] theorem State.fail_errCause (s : State) (k : ErrKind) (c : BitVec 3) :
    (s.fail k c).errCause = c := rfl
@[simp] theorem State.fail_errState (s : State) (k : ErrKind) (c : BitVec 3) :
    (s.fail k c).errState = s.st := rfl
@[simp] theorem State.fail_stray (s : State) (k : ErrKind) (c : BitVec 3) :
    (s.fail k c).stray = s.stray := rfl
@[simp] theorem State.fail_cmdErr (s : State) (k : ErrKind) (c : BitVec 3) :
    (s.fail k c).cmdErr = .ok := rfl
@[simp] theorem State.fail_dout (s : State) (k : ErrKind) (c : BitVec 3) :
    (s.fail k c).dout = s.dout := rfl
@[simp] theorem State.fail_daux (s : State) (k : ErrKind) (c : BitVec 3) :
    (s.fail k c).daux = s.daux := rfl
@[simp] theorem State.fail_dvalid (s : State) (k : ErrKind) (c : BitVec 3) :
    (s.fail k c).dvalid = s.dvalid := rfl
@[simp] theorem State.fail_dend (s : State) (k : ErrKind) (c : BitVec 3) :
    (s.fail k c).dend = s.dend := rfl
@[simp] theorem State.fail_warnPtr (s : State) (k : ErrKind) (c : BitVec 3) :
    (s.fail k c).warnPtr = s.warnPtr := rfl
@[simp] theorem State.fail_cfg (s : State) (k : ErrKind) (c : BitVec 3) :
    (s.fail k c).cfg = s.cfg := rfl
@[simp] theorem State.fail_input (s : State) (k : ErrKind) (c : BitVec 3) :
    (s.fail k c).input = s.input := rfl
@[simp] theorem State.fail_events (s : State) (k : ErrKind) (c : BitVec 3) :
    (s.fail k c).events = s.events ++ [.close] := rfl

@[simp] theorem State.enterComplete_st (s : State) :
    (s.enterComplete).st = .complete := rfl
@[simp] theorem State.enterComplete_txn (s : State) :
    (s.enterComplete).txn = s.txn := rfl
@[simp] theorem State.enterComplete_genCrc (s : State) :
    (s.enterComplete).genCrc = s.genCrc := rfl
@[simp] theorem State.enterComplete_crcOk (s : State) :
    (s.enterComplete).crcOk = s.crcOk := rfl
@[simp] theorem State.enterComplete_txBuf (s : State) :
    (s.enterComplete).txBuf = s.txBuf := rfl
@[simp] theorem State.enterComplete_txLen (s : State) :
    (s.enterComplete).txLen = s.txLen := rfl
@[simp] theorem State.enterComplete_chkCrc (s : State) :
    (s.enterComplete).chkCrc = s.chkCrc := rfl
@[simp] theorem State.enterComplete_rxBuf (s : State) :
    (s.enterComplete).rxBuf = s.rxBuf := rfl
@[simp] theorem State.enterComplete_rxLen (s : State) :
    (s.enterComplete).rxLen = s.rxLen := rfl
@[simp] theorem State.enterComplete_decl (s : State) :
    (s.enterComplete).decl = s.decl := rfl
@[simp] theorem State.enterComplete_hdrIdx (s : State) :
    (s.enterComplete).hdrIdx = s.hdrIdx := rfl
@[simp] theorem State.enterComplete_bodyRem (s : State) :
    (s.enterComplete).bodyRem = s.bodyRem := rfl
@[simp] theorem State.enterComplete_objRem (s : State) :
    (s.enterComplete).objRem = s.objRem := rfl
@[simp] theorem State.enterComplete_tlvPh (s : State) :
    (s.enterComplete).tlvPh = s.tlvPh := rfl
@[simp] theorem State.enterComplete_valRem (s : State) :
    (s.enterComplete).valRem = s.valRem := rfl
@[simp] theorem State.enterComplete_csIdx (s : State) :
    (s.enterComplete).csIdx = s.csIdx := rfl
@[simp] theorem State.enterComplete_rxCs (s : State) :
    (s.enterComplete).rxCs = s.rxCs := rfl
@[simp] theorem State.enterComplete_ovf (s : State) :
    (s.enterComplete).ovf = s.ovf := rfl
@[simp] theorem State.enterComplete_errKind (s : State) :
    (s.enterComplete).errKind = s.errKind := rfl
@[simp] theorem State.enterComplete_errCause (s : State) :
    (s.enterComplete).errCause = s.errCause := rfl
@[simp] theorem State.enterComplete_errState (s : State) :
    (s.enterComplete).errState = s.errState := rfl
@[simp] theorem State.enterComplete_stray (s : State) :
    (s.enterComplete).stray = s.stray := rfl
@[simp] theorem State.enterComplete_cmdErr (s : State) :
    (s.enterComplete).cmdErr = .ok := rfl
@[simp] theorem State.enterComplete_dout (s : State) :
    (s.enterComplete).dout = s.dout := rfl
@[simp] theorem State.enterComplete_daux (s : State) :
    (s.enterComplete).daux = s.daux := rfl
@[simp] theorem State.enterComplete_dvalid (s : State) :
    (s.enterComplete).dvalid = s.dvalid := rfl
@[simp] theorem State.enterComplete_dend (s : State) :
    (s.enterComplete).dend = s.dend := rfl
@[simp] theorem State.enterComplete_warnPtr (s : State) :
    (s.enterComplete).warnPtr = 0#9 := rfl
@[simp] theorem State.enterComplete_cfg (s : State) :
    (s.enterComplete).cfg = s.cfg := rfl
@[simp] theorem State.enterComplete_input (s : State) :
    (s.enterComplete).input = s.input := rfl
@[simp] theorem State.enterComplete_events (s : State) :
    (s.enterComplete).events = s.events ++ [.close] := rfl

@[simp] theorem State.clearTransaction_st (s : State) :
    (s.clearTransaction).st = s.st := rfl
@[simp] theorem State.clearTransaction_txn (s : State) :
    (s.clearTransaction).txn = s.txn := rfl
@[simp] theorem State.clearTransaction_genCrc (s : State) :
    (s.clearTransaction).genCrc = s.genCrc := rfl
@[simp] theorem State.clearTransaction_crcOk (s : State) :
    (s.clearTransaction).crcOk = s.crcOk := rfl
@[simp] theorem State.clearTransaction_txBuf (s : State) :
    (s.clearTransaction).txBuf = s.txBuf := rfl
@[simp] theorem State.clearTransaction_txLen (s : State) :
    (s.clearTransaction).txLen = s.txLen := rfl
@[simp] theorem State.clearTransaction_chkCrc (s : State) :
    (s.clearTransaction).chkCrc = crcInitValue := rfl
@[simp] theorem State.clearTransaction_rxBuf (s : State) :
    (s.clearTransaction).rxBuf = s.rxBuf := rfl
@[simp] theorem State.clearTransaction_rxLen (s : State) :
    (s.clearTransaction).rxLen = 0#17 := rfl
@[simp] theorem State.clearTransaction_decl (s : State) :
    (s.clearTransaction).decl = 0#8 := rfl
@[simp] theorem State.clearTransaction_hdrIdx (s : State) :
    (s.clearTransaction).hdrIdx = 0#3 := rfl
@[simp] theorem State.clearTransaction_bodyRem (s : State) :
    (s.clearTransaction).bodyRem = 0#8 := rfl
@[simp] theorem State.clearTransaction_objRem (s : State) :
    (s.clearTransaction).objRem = 0#8 := rfl
@[simp] theorem State.clearTransaction_tlvPh (s : State) :
    (s.clearTransaction).tlvPh = .id := rfl
@[simp] theorem State.clearTransaction_valRem (s : State) :
    (s.clearTransaction).valRem = 0#8 := rfl
@[simp] theorem State.clearTransaction_csIdx (s : State) :
    (s.clearTransaction).csIdx = false := rfl
@[simp] theorem State.clearTransaction_rxCs (s : State) :
    (s.clearTransaction).rxCs = 0#16 := rfl
@[simp] theorem State.clearTransaction_ovf (s : State) :
    (s.clearTransaction).ovf = false := rfl
@[simp] theorem State.clearTransaction_errKind (s : State) :
    (s.clearTransaction).errKind = .none := rfl
@[simp] theorem State.clearTransaction_errCause (s : State) :
    (s.clearTransaction).errCause = 0#3 := rfl
@[simp] theorem State.clearTransaction_errState (s : State) :
    (s.clearTransaction).errState = .idle := rfl
@[simp] theorem State.clearTransaction_stray (s : State) :
    (s.clearTransaction).stray = false := rfl
@[simp] theorem State.clearTransaction_cmdErr (s : State) :
    (s.clearTransaction).cmdErr = s.cmdErr := rfl
@[simp] theorem State.clearTransaction_dout (s : State) :
    (s.clearTransaction).dout = 0#32 := rfl
@[simp] theorem State.clearTransaction_daux (s : State) :
    (s.clearTransaction).daux = 0#16 := rfl
@[simp] theorem State.clearTransaction_dvalid (s : State) :
    (s.clearTransaction).dvalid = false := rfl
@[simp] theorem State.clearTransaction_dend (s : State) :
    (s.clearTransaction).dend = false := rfl
@[simp] theorem State.clearTransaction_warnPtr (s : State) :
    (s.clearTransaction).warnPtr = 0#9 := rfl
@[simp] theorem State.clearTransaction_cfg (s : State) :
    (s.clearTransaction).cfg = s.cfg := rfl
@[simp] theorem State.clearTransaction_input (s : State) :
    (s.clearTransaction).input = s.input := rfl
@[simp] theorem State.clearTransaction_events (s : State) :
    (s.clearTransaction).events = s.events := rfl

@[simp] theorem State.assemble_st (s : State) (t : Txn) :
    (s.assemble t).st = .sent := rfl
@[simp] theorem State.assemble_txn (s : State) (t : Txn) :
    (s.assemble t).txn = t := rfl
@[simp] theorem State.assemble_genCrc (s : State) (t : Txn) :
    (s.assemble t).genCrc = crc16 (requestRom t) := rfl
@[simp] theorem State.assemble_crcOk (s : State) (t : Txn) :
    (s.assemble t).crcOk = s.crcOk := rfl
@[simp] theorem State.assemble_txBuf (s : State) (t : Txn) :
    (s.assemble t).txBuf = overwriteTx s.txBuf (requestFrame t) := rfl
@[simp] theorem State.assemble_txLen (s : State) (t : Txn) :
    (s.assemble t).txLen = BitVec.ofNat 4 ((requestRom t).length + 2) := rfl
@[simp] theorem State.assemble_chkCrc (s : State) (t : Txn) :
    (s.assemble t).chkCrc = crcInitValue := rfl
@[simp] theorem State.assemble_rxBuf (s : State) (t : Txn) :
    (s.assemble t).rxBuf = s.rxBuf := rfl
@[simp] theorem State.assemble_rxLen (s : State) (t : Txn) :
    (s.assemble t).rxLen = 0#17 := rfl
@[simp] theorem State.assemble_decl (s : State) (t : Txn) :
    (s.assemble t).decl = 0#8 := rfl
@[simp] theorem State.assemble_hdrIdx (s : State) (t : Txn) :
    (s.assemble t).hdrIdx = 0#3 := rfl
@[simp] theorem State.assemble_bodyRem (s : State) (t : Txn) :
    (s.assemble t).bodyRem = 0#8 := rfl
@[simp] theorem State.assemble_objRem (s : State) (t : Txn) :
    (s.assemble t).objRem = 0#8 := rfl
@[simp] theorem State.assemble_tlvPh (s : State) (t : Txn) :
    (s.assemble t).tlvPh = .id := rfl
@[simp] theorem State.assemble_valRem (s : State) (t : Txn) :
    (s.assemble t).valRem = 0#8 := rfl
@[simp] theorem State.assemble_csIdx (s : State) (t : Txn) :
    (s.assemble t).csIdx = false := rfl
@[simp] theorem State.assemble_rxCs (s : State) (t : Txn) :
    (s.assemble t).rxCs = 0#16 := rfl
@[simp] theorem State.assemble_ovf (s : State) (t : Txn) :
    (s.assemble t).ovf = false := rfl
@[simp] theorem State.assemble_errKind (s : State) (t : Txn) :
    (s.assemble t).errKind = .none := rfl
@[simp] theorem State.assemble_errCause (s : State) (t : Txn) :
    (s.assemble t).errCause = 0#3 := rfl
@[simp] theorem State.assemble_errState (s : State) (t : Txn) :
    (s.assemble t).errState = .idle := rfl
@[simp] theorem State.assemble_stray (s : State) (t : Txn) :
    (s.assemble t).stray = false := rfl
@[simp] theorem State.assemble_cmdErr (s : State) (t : Txn) :
    (s.assemble t).cmdErr = .ok := rfl
@[simp] theorem State.assemble_dout (s : State) (t : Txn) :
    (s.assemble t).dout = 0#32 := rfl
@[simp] theorem State.assemble_daux (s : State) (t : Txn) :
    (s.assemble t).daux = 0#16 := rfl
@[simp] theorem State.assemble_dvalid (s : State) (t : Txn) :
    (s.assemble t).dvalid = false := rfl
@[simp] theorem State.assemble_dend (s : State) (t : Txn) :
    (s.assemble t).dend = false := rfl
@[simp] theorem State.assemble_warnPtr (s : State) (t : Txn) :
    (s.assemble t).warnPtr = 0#9 := rfl
@[simp] theorem State.assemble_cfg (s : State) (t : Txn) :
    (s.assemble t).cfg = s.cfg := rfl
@[simp] theorem State.assemble_input (s : State) (t : Txn) :
    (s.assemble t).input = s.input := rfl
@[simp] theorem State.assemble_events (s : State) (t : Txn) :
    (s.assemble t).events = s.events := rfl

@[simp] theorem State.emitFrame_st (s : State) :
    (s.emitFrame).st = s.st := rfl
@[simp] theorem State.emitFrame_txn (s : State) :
    (s.emitFrame).txn = s.txn := rfl
@[simp] theorem State.emitFrame_genCrc (s : State) :
    (s.emitFrame).genCrc = s.genCrc := rfl
@[simp] theorem State.emitFrame_crcOk (s : State) :
    (s.emitFrame).crcOk = s.crcOk := rfl
@[simp] theorem State.emitFrame_txBuf (s : State) :
    (s.emitFrame).txBuf = s.txBuf := rfl
@[simp] theorem State.emitFrame_txLen (s : State) :
    (s.emitFrame).txLen = s.txLen := rfl
@[simp] theorem State.emitFrame_chkCrc (s : State) :
    (s.emitFrame).chkCrc = s.chkCrc := rfl
@[simp] theorem State.emitFrame_rxBuf (s : State) :
    (s.emitFrame).rxBuf = s.rxBuf := rfl
@[simp] theorem State.emitFrame_rxLen (s : State) :
    (s.emitFrame).rxLen = s.rxLen := rfl
@[simp] theorem State.emitFrame_decl (s : State) :
    (s.emitFrame).decl = s.decl := rfl
@[simp] theorem State.emitFrame_hdrIdx (s : State) :
    (s.emitFrame).hdrIdx = s.hdrIdx := rfl
@[simp] theorem State.emitFrame_bodyRem (s : State) :
    (s.emitFrame).bodyRem = s.bodyRem := rfl
@[simp] theorem State.emitFrame_objRem (s : State) :
    (s.emitFrame).objRem = s.objRem := rfl
@[simp] theorem State.emitFrame_tlvPh (s : State) :
    (s.emitFrame).tlvPh = s.tlvPh := rfl
@[simp] theorem State.emitFrame_valRem (s : State) :
    (s.emitFrame).valRem = s.valRem := rfl
@[simp] theorem State.emitFrame_csIdx (s : State) :
    (s.emitFrame).csIdx = s.csIdx := rfl
@[simp] theorem State.emitFrame_rxCs (s : State) :
    (s.emitFrame).rxCs = s.rxCs := rfl
@[simp] theorem State.emitFrame_ovf (s : State) :
    (s.emitFrame).ovf = s.ovf := rfl
@[simp] theorem State.emitFrame_errKind (s : State) :
    (s.emitFrame).errKind = s.errKind := rfl
@[simp] theorem State.emitFrame_errCause (s : State) :
    (s.emitFrame).errCause = s.errCause := rfl
@[simp] theorem State.emitFrame_errState (s : State) :
    (s.emitFrame).errState = s.errState := rfl
@[simp] theorem State.emitFrame_stray (s : State) :
    (s.emitFrame).stray = s.stray := rfl
@[simp] theorem State.emitFrame_cmdErr (s : State) :
    (s.emitFrame).cmdErr = s.cmdErr := rfl
@[simp] theorem State.emitFrame_dout (s : State) :
    (s.emitFrame).dout = s.dout := rfl
@[simp] theorem State.emitFrame_daux (s : State) :
    (s.emitFrame).daux = s.daux := rfl
@[simp] theorem State.emitFrame_dvalid (s : State) :
    (s.emitFrame).dvalid = s.dvalid := rfl
@[simp] theorem State.emitFrame_dend (s : State) :
    (s.emitFrame).dend = s.dend := rfl
@[simp] theorem State.emitFrame_warnPtr (s : State) :
    (s.emitFrame).warnPtr = s.warnPtr := rfl
@[simp] theorem State.emitFrame_cfg (s : State) :
    (s.emitFrame).cfg = s.cfg := rfl
@[simp] theorem State.emitFrame_input (s : State) :
    (s.emitFrame).input = s.input := rfl
@[simp] theorem State.emitFrame_events (s : State) :
    (s.emitFrame).events = s.events ++ [.txFrame s.txFrame] := rfl

@[simp] theorem State.acceptByte_st (s : State) (b : Byte) :
    (s.acceptByte b).st = s.st := rfl
@[simp] theorem State.acceptByte_txn (s : State) (b : Byte) :
    (s.acceptByte b).txn = s.txn := rfl
@[simp] theorem State.acceptByte_genCrc (s : State) (b : Byte) :
    (s.acceptByte b).genCrc = s.genCrc := rfl
@[simp] theorem State.acceptByte_crcOk (s : State) (b : Byte) :
    (s.acceptByte b).crcOk = s.crcOk := rfl
@[simp] theorem State.acceptByte_txBuf (s : State) (b : Byte) :
    (s.acceptByte b).txBuf = s.txBuf := rfl
@[simp] theorem State.acceptByte_txLen (s : State) (b : Byte) :
    (s.acceptByte b).txLen = s.txLen := rfl
@[simp] theorem State.acceptByte_chkCrc (s : State) (b : Byte) :
    (s.acceptByte b).chkCrc = crcStep s.chkCrc b := rfl
@[simp] theorem State.acceptByte_rxBuf (s : State) (b : Byte) :
    (s.acceptByte b).rxBuf = if rxFull s then s.rxBuf else s.rxBuf.write s.rxLen.toNat b := rfl
@[simp] theorem State.acceptByte_rxLen (s : State) (b : Byte) :
    (s.acceptByte b).rxLen = s.rxLen + 1#17 := rfl
@[simp] theorem State.acceptByte_decl (s : State) (b : Byte) :
    (s.acceptByte b).decl = s.decl := rfl
@[simp] theorem State.acceptByte_hdrIdx (s : State) (b : Byte) :
    (s.acceptByte b).hdrIdx = s.hdrIdx := rfl
@[simp] theorem State.acceptByte_bodyRem (s : State) (b : Byte) :
    (s.acceptByte b).bodyRem = s.bodyRem := rfl
@[simp] theorem State.acceptByte_objRem (s : State) (b : Byte) :
    (s.acceptByte b).objRem = s.objRem := rfl
@[simp] theorem State.acceptByte_tlvPh (s : State) (b : Byte) :
    (s.acceptByte b).tlvPh = s.tlvPh := rfl
@[simp] theorem State.acceptByte_valRem (s : State) (b : Byte) :
    (s.acceptByte b).valRem = s.valRem := rfl
@[simp] theorem State.acceptByte_csIdx (s : State) (b : Byte) :
    (s.acceptByte b).csIdx = s.csIdx := rfl
@[simp] theorem State.acceptByte_rxCs (s : State) (b : Byte) :
    (s.acceptByte b).rxCs = s.rxCs := rfl
@[simp] theorem State.acceptByte_ovf (s : State) (b : Byte) :
    (s.acceptByte b).ovf = (rxFull s || s.ovf) := rfl
@[simp] theorem State.acceptByte_errKind (s : State) (b : Byte) :
    (s.acceptByte b).errKind = s.errKind := rfl
@[simp] theorem State.acceptByte_errCause (s : State) (b : Byte) :
    (s.acceptByte b).errCause = s.errCause := rfl
@[simp] theorem State.acceptByte_errState (s : State) (b : Byte) :
    (s.acceptByte b).errState = s.errState := rfl
@[simp] theorem State.acceptByte_stray (s : State) (b : Byte) :
    (s.acceptByte b).stray = s.stray := rfl
@[simp] theorem State.acceptByte_cmdErr (s : State) (b : Byte) :
    (s.acceptByte b).cmdErr = s.cmdErr := rfl
@[simp] theorem State.acceptByte_dout (s : State) (b : Byte) :
    (s.acceptByte b).dout = s.dout := rfl
@[simp] theorem State.acceptByte_daux (s : State) (b : Byte) :
    (s.acceptByte b).daux = s.daux := rfl
@[simp] theorem State.acceptByte_dvalid (s : State) (b : Byte) :
    (s.acceptByte b).dvalid = s.dvalid := rfl
@[simp] theorem State.acceptByte_dend (s : State) (b : Byte) :
    (s.acceptByte b).dend = s.dend := rfl
@[simp] theorem State.acceptByte_warnPtr (s : State) (b : Byte) :
    (s.acceptByte b).warnPtr = s.warnPtr := rfl
@[simp] theorem State.acceptByte_cfg (s : State) (b : Byte) :
    (s.acceptByte b).cfg = s.cfg := rfl
@[simp] theorem State.acceptByte_input (s : State) (b : Byte) :
    (s.acceptByte b).input = s.input := rfl
@[simp] theorem State.acceptByte_events (s : State) (b : Byte) :
    (s.acceptByte b).events = s.events := rfl

@[simp] theorem State.setOutputs_st (s : State) (d : BitVec 32) (a : BitVec 16) (v : Bool) :
    (s.setOutputs d a v).st = s.st := rfl
@[simp] theorem State.setOutputs_txn (s : State) (d : BitVec 32) (a : BitVec 16) (v : Bool) :
    (s.setOutputs d a v).txn = s.txn := rfl
@[simp] theorem State.setOutputs_genCrc (s : State) (d : BitVec 32) (a : BitVec 16) (v : Bool) :
    (s.setOutputs d a v).genCrc = s.genCrc := rfl
@[simp] theorem State.setOutputs_crcOk (s : State) (d : BitVec 32) (a : BitVec 16) (v : Bool) :
    (s.setOutputs d a v).crcOk = s.crcOk := rfl
@[simp] theorem State.setOutputs_txBuf (s : State) (d : BitVec 32) (a : BitVec 16) (v : Bool) :
    (s.setOutputs d a v).txBuf = s.txBuf := rfl
@[simp] theorem State.setOutputs_txLen (s : State) (d : BitVec 32) (a : BitVec 16) (v : Bool) :
    (s.setOutputs d a v).txLen = s.txLen := rfl
@[simp] theorem State.setOutputs_chkCrc (s : State) (d : BitVec 32) (a : BitVec 16) (v : Bool) :
    (s.setOutputs d a v).chkCrc = s.chkCrc := rfl
@[simp] theorem State.setOutputs_rxBuf (s : State) (d : BitVec 32) (a : BitVec 16) (v : Bool) :
    (s.setOutputs d a v).rxBuf = s.rxBuf := rfl
@[simp] theorem State.setOutputs_rxLen (s : State) (d : BitVec 32) (a : BitVec 16) (v : Bool) :
    (s.setOutputs d a v).rxLen = s.rxLen := rfl
@[simp] theorem State.setOutputs_decl (s : State) (d : BitVec 32) (a : BitVec 16) (v : Bool) :
    (s.setOutputs d a v).decl = s.decl := rfl
@[simp] theorem State.setOutputs_hdrIdx (s : State) (d : BitVec 32) (a : BitVec 16) (v : Bool) :
    (s.setOutputs d a v).hdrIdx = s.hdrIdx := rfl
@[simp] theorem State.setOutputs_bodyRem (s : State) (d : BitVec 32) (a : BitVec 16) (v : Bool) :
    (s.setOutputs d a v).bodyRem = s.bodyRem := rfl
@[simp] theorem State.setOutputs_objRem (s : State) (d : BitVec 32) (a : BitVec 16) (v : Bool) :
    (s.setOutputs d a v).objRem = s.objRem := rfl
@[simp] theorem State.setOutputs_tlvPh (s : State) (d : BitVec 32) (a : BitVec 16) (v : Bool) :
    (s.setOutputs d a v).tlvPh = s.tlvPh := rfl
@[simp] theorem State.setOutputs_valRem (s : State) (d : BitVec 32) (a : BitVec 16) (v : Bool) :
    (s.setOutputs d a v).valRem = s.valRem := rfl
@[simp] theorem State.setOutputs_csIdx (s : State) (d : BitVec 32) (a : BitVec 16) (v : Bool) :
    (s.setOutputs d a v).csIdx = s.csIdx := rfl
@[simp] theorem State.setOutputs_rxCs (s : State) (d : BitVec 32) (a : BitVec 16) (v : Bool) :
    (s.setOutputs d a v).rxCs = s.rxCs := rfl
@[simp] theorem State.setOutputs_ovf (s : State) (d : BitVec 32) (a : BitVec 16) (v : Bool) :
    (s.setOutputs d a v).ovf = s.ovf := rfl
@[simp] theorem State.setOutputs_errKind (s : State) (d : BitVec 32) (a : BitVec 16) (v : Bool) :
    (s.setOutputs d a v).errKind = s.errKind := rfl
@[simp] theorem State.setOutputs_errCause (s : State) (d : BitVec 32) (a : BitVec 16) (v : Bool) :
    (s.setOutputs d a v).errCause = s.errCause := rfl
@[simp] theorem State.setOutputs_errState (s : State) (d : BitVec 32) (a : BitVec 16) (v : Bool) :
    (s.setOutputs d a v).errState = s.errState := rfl
@[simp] theorem State.setOutputs_stray (s : State) (d : BitVec 32) (a : BitVec 16) (v : Bool) :
    (s.setOutputs d a v).stray = s.stray := rfl
@[simp] theorem State.setOutputs_cmdErr (s : State) (d : BitVec 32) (a : BitVec 16) (v : Bool) :
    (s.setOutputs d a v).cmdErr = .ok := rfl
@[simp] theorem State.setOutputs_dout (s : State) (d : BitVec 32) (a : BitVec 16) (v : Bool) :
    (s.setOutputs d a v).dout = d := rfl
@[simp] theorem State.setOutputs_daux (s : State) (d : BitVec 32) (a : BitVec 16) (v : Bool) :
    (s.setOutputs d a v).daux = a := rfl
@[simp] theorem State.setOutputs_dvalid (s : State) (d : BitVec 32) (a : BitVec 16) (v : Bool) :
    (s.setOutputs d a v).dvalid = v := rfl
@[simp] theorem State.setOutputs_dend (s : State) (d : BitVec 32) (a : BitVec 16) (v : Bool) :
    (s.setOutputs d a v).dend = false := rfl
@[simp] theorem State.setOutputs_warnPtr (s : State) (d : BitVec 32) (a : BitVec 16) (v : Bool) :
    (s.setOutputs d a v).warnPtr = s.warnPtr := rfl
@[simp] theorem State.setOutputs_cfg (s : State) (d : BitVec 32) (a : BitVec 16) (v : Bool) :
    (s.setOutputs d a v).cfg = s.cfg := rfl
@[simp] theorem State.setOutputs_input (s : State) (d : BitVec 32) (a : BitVec 16) (v : Bool) :
    (s.setOutputs d a v).input = s.input := rfl
@[simp] theorem State.setOutputs_events (s : State) (d : BitVec 32) (a : BitVec 16) (v : Bool) :
    (s.setOutputs d a v).events = s.events := rfl

@[simp] theorem State.applyReset_st (s : State) :
    (s.applyReset).st = .idle := rfl
@[simp] theorem State.applyReset_txn (s : State) :
    (s.applyReset).txn = .devinfo := rfl
@[simp] theorem State.applyReset_genCrc (s : State) :
    (s.applyReset).genCrc = 0xFFFF#16 := rfl
@[simp] theorem State.applyReset_crcOk (s : State) :
    (s.applyReset).crcOk = false := rfl
@[simp] theorem State.applyReset_txBuf (s : State) :
    (s.applyReset).txBuf = State.reset.txBuf := rfl
@[simp] theorem State.applyReset_txLen (s : State) :
    (s.applyReset).txLen = 0#4 := rfl
@[simp] theorem State.applyReset_chkCrc (s : State) :
    (s.applyReset).chkCrc = 0xFFFF#16 := rfl
@[simp] theorem State.applyReset_rxBuf (s : State) :
    (s.applyReset).rxBuf = [] := rfl
@[simp] theorem State.applyReset_rxLen (s : State) :
    (s.applyReset).rxLen = 0#17 := rfl
@[simp] theorem State.applyReset_decl (s : State) :
    (s.applyReset).decl = 0#8 := rfl
@[simp] theorem State.applyReset_hdrIdx (s : State) :
    (s.applyReset).hdrIdx = 0#3 := rfl
@[simp] theorem State.applyReset_bodyRem (s : State) :
    (s.applyReset).bodyRem = 0#8 := rfl
@[simp] theorem State.applyReset_objRem (s : State) :
    (s.applyReset).objRem = 0#8 := rfl
@[simp] theorem State.applyReset_tlvPh (s : State) :
    (s.applyReset).tlvPh = .id := rfl
@[simp] theorem State.applyReset_valRem (s : State) :
    (s.applyReset).valRem = 0#8 := rfl
@[simp] theorem State.applyReset_csIdx (s : State) :
    (s.applyReset).csIdx = false := rfl
@[simp] theorem State.applyReset_rxCs (s : State) :
    (s.applyReset).rxCs = 0#16 := rfl
@[simp] theorem State.applyReset_ovf (s : State) :
    (s.applyReset).ovf = false := rfl
@[simp] theorem State.applyReset_errKind (s : State) :
    (s.applyReset).errKind = .none := rfl
@[simp] theorem State.applyReset_errCause (s : State) :
    (s.applyReset).errCause = 0#3 := rfl
@[simp] theorem State.applyReset_errState (s : State) :
    (s.applyReset).errState = .idle := rfl
@[simp] theorem State.applyReset_stray (s : State) :
    (s.applyReset).stray = false := rfl
@[simp] theorem State.applyReset_cmdErr (s : State) :
    (s.applyReset).cmdErr = .ok := rfl
@[simp] theorem State.applyReset_dout (s : State) :
    (s.applyReset).dout = 0#32 := rfl
@[simp] theorem State.applyReset_daux (s : State) :
    (s.applyReset).daux = 0#16 := rfl
@[simp] theorem State.applyReset_dvalid (s : State) :
    (s.applyReset).dvalid = false := rfl
@[simp] theorem State.applyReset_dend (s : State) :
    (s.applyReset).dend = false := rfl
@[simp] theorem State.applyReset_warnPtr (s : State) :
    (s.applyReset).warnPtr = 0#9 := rfl
@[simp] theorem State.applyReset_cfg (s : State) :
    (s.applyReset).cfg = s.cfg := rfl
@[simp] theorem State.applyReset_input (s : State) :
    (s.applyReset).input = s.input := rfl
@[simp] theorem State.applyReset_events (s : State) :
    (s.applyReset).events = s.events := rfl

@[simp] theorem State.withInput_st (s : State) (x : Input) :
    (s.withInput x).st = s.st := rfl
@[simp] theorem State.withInput_txn (s : State) (x : Input) :
    (s.withInput x).txn = s.txn := rfl
@[simp] theorem State.withInput_genCrc (s : State) (x : Input) :
    (s.withInput x).genCrc = s.genCrc := rfl
@[simp] theorem State.withInput_crcOk (s : State) (x : Input) :
    (s.withInput x).crcOk = s.crcOk := rfl
@[simp] theorem State.withInput_txBuf (s : State) (x : Input) :
    (s.withInput x).txBuf = s.txBuf := rfl
@[simp] theorem State.withInput_txLen (s : State) (x : Input) :
    (s.withInput x).txLen = s.txLen := rfl
@[simp] theorem State.withInput_chkCrc (s : State) (x : Input) :
    (s.withInput x).chkCrc = s.chkCrc := rfl
@[simp] theorem State.withInput_rxBuf (s : State) (x : Input) :
    (s.withInput x).rxBuf = s.rxBuf := rfl
@[simp] theorem State.withInput_rxLen (s : State) (x : Input) :
    (s.withInput x).rxLen = s.rxLen := rfl
@[simp] theorem State.withInput_decl (s : State) (x : Input) :
    (s.withInput x).decl = s.decl := rfl
@[simp] theorem State.withInput_hdrIdx (s : State) (x : Input) :
    (s.withInput x).hdrIdx = s.hdrIdx := rfl
@[simp] theorem State.withInput_bodyRem (s : State) (x : Input) :
    (s.withInput x).bodyRem = s.bodyRem := rfl
@[simp] theorem State.withInput_objRem (s : State) (x : Input) :
    (s.withInput x).objRem = s.objRem := rfl
@[simp] theorem State.withInput_tlvPh (s : State) (x : Input) :
    (s.withInput x).tlvPh = s.tlvPh := rfl
@[simp] theorem State.withInput_valRem (s : State) (x : Input) :
    (s.withInput x).valRem = s.valRem := rfl
@[simp] theorem State.withInput_csIdx (s : State) (x : Input) :
    (s.withInput x).csIdx = s.csIdx := rfl
@[simp] theorem State.withInput_rxCs (s : State) (x : Input) :
    (s.withInput x).rxCs = s.rxCs := rfl
@[simp] theorem State.withInput_ovf (s : State) (x : Input) :
    (s.withInput x).ovf = s.ovf := rfl
@[simp] theorem State.withInput_errKind (s : State) (x : Input) :
    (s.withInput x).errKind = s.errKind := rfl
@[simp] theorem State.withInput_errCause (s : State) (x : Input) :
    (s.withInput x).errCause = s.errCause := rfl
@[simp] theorem State.withInput_errState (s : State) (x : Input) :
    (s.withInput x).errState = s.errState := rfl
@[simp] theorem State.withInput_stray (s : State) (x : Input) :
    (s.withInput x).stray = s.stray := rfl
@[simp] theorem State.withInput_cmdErr (s : State) (x : Input) :
    (s.withInput x).cmdErr = s.cmdErr := rfl
@[simp] theorem State.withInput_dout (s : State) (x : Input) :
    (s.withInput x).dout = s.dout := rfl
@[simp] theorem State.withInput_daux (s : State) (x : Input) :
    (s.withInput x).daux = s.daux := rfl
@[simp] theorem State.withInput_dvalid (s : State) (x : Input) :
    (s.withInput x).dvalid = s.dvalid := rfl
@[simp] theorem State.withInput_dend (s : State) (x : Input) :
    (s.withInput x).dend = s.dend := rfl
@[simp] theorem State.withInput_warnPtr (s : State) (x : Input) :
    (s.withInput x).warnPtr = s.warnPtr := rfl
@[simp] theorem State.withInput_cfg (s : State) (x : Input) :
    (s.withInput x).cfg = s.cfg := rfl
@[simp] theorem State.withInput_input (s : State) (x : Input) :
    (s.withInput x).input = x :: s.input := rfl
@[simp] theorem State.withInput_events (s : State) (x : Input) :
    (s.withInput x).events = s.events := rfl

@[simp] theorem State.dropInput_st (s : State) :
    (s.dropInput).st = s.st := rfl
@[simp] theorem State.dropInput_txn (s : State) :
    (s.dropInput).txn = s.txn := rfl
@[simp] theorem State.dropInput_genCrc (s : State) :
    (s.dropInput).genCrc = s.genCrc := rfl
@[simp] theorem State.dropInput_crcOk (s : State) :
    (s.dropInput).crcOk = s.crcOk := rfl
@[simp] theorem State.dropInput_txBuf (s : State) :
    (s.dropInput).txBuf = s.txBuf := rfl
@[simp] theorem State.dropInput_txLen (s : State) :
    (s.dropInput).txLen = s.txLen := rfl
@[simp] theorem State.dropInput_chkCrc (s : State) :
    (s.dropInput).chkCrc = s.chkCrc := rfl
@[simp] theorem State.dropInput_rxBuf (s : State) :
    (s.dropInput).rxBuf = s.rxBuf := rfl
@[simp] theorem State.dropInput_rxLen (s : State) :
    (s.dropInput).rxLen = s.rxLen := rfl
@[simp] theorem State.dropInput_decl (s : State) :
    (s.dropInput).decl = s.decl := rfl
@[simp] theorem State.dropInput_hdrIdx (s : State) :
    (s.dropInput).hdrIdx = s.hdrIdx := rfl
@[simp] theorem State.dropInput_bodyRem (s : State) :
    (s.dropInput).bodyRem = s.bodyRem := rfl
@[simp] theorem State.dropInput_objRem (s : State) :
    (s.dropInput).objRem = s.objRem := rfl
@[simp] theorem State.dropInput_tlvPh (s : State) :
    (s.dropInput).tlvPh = s.tlvPh := rfl
@[simp] theorem State.dropInput_valRem (s : State) :
    (s.dropInput).valRem = s.valRem := rfl
@[simp] theorem State.dropInput_csIdx (s : State) :
    (s.dropInput).csIdx = s.csIdx := rfl
@[simp] theorem State.dropInput_rxCs (s : State) :
    (s.dropInput).rxCs = s.rxCs := rfl
@[simp] theorem State.dropInput_ovf (s : State) :
    (s.dropInput).ovf = s.ovf := rfl
@[simp] theorem State.dropInput_errKind (s : State) :
    (s.dropInput).errKind = s.errKind := rfl
@[simp] theorem State.dropInput_errCause (s : State) :
    (s.dropInput).errCause = s.errCause := rfl
@[simp] theorem State.dropInput_errState (s : State) :
    (s.dropInput).errState = s.errState := rfl
@[simp] theorem State.dropInput_stray (s : State) :
    (s.dropInput).stray = s.stray := rfl
@[simp] theorem State.dropInput_cmdErr (s : State) :
    (s.dropInput).cmdErr = s.cmdErr := rfl
@[simp] theorem State.dropInput_dout (s : State) :
    (s.dropInput).dout = s.dout := rfl
@[simp] theorem State.dropInput_daux (s : State) :
    (s.dropInput).daux = s.daux := rfl
@[simp] theorem State.dropInput_dvalid (s : State) :
    (s.dropInput).dvalid = s.dvalid := rfl
@[simp] theorem State.dropInput_dend (s : State) :
    (s.dropInput).dend = s.dend := rfl
@[simp] theorem State.dropInput_warnPtr (s : State) :
    (s.dropInput).warnPtr = s.warnPtr := rfl
@[simp] theorem State.dropInput_cfg (s : State) :
    (s.dropInput).cfg = s.cfg := rfl
@[simp] theorem State.dropInput_input (s : State) :
    (s.dropInput).input = s.input.tail := rfl
@[simp] theorem State.dropInput_events (s : State) :
    (s.dropInput).events = s.events := rfl

end Sys2Proof.Machine
end

