-- ==== Sys2Proof/Laws/Ops.lean ====
section
/-! SUPPORT. What each shared operation can do, said once: the lemmas the proofs cite instead of unfolding
the operations. -/

namespace Sys2Proof.Machine

/-- A START past its operand check is refused BUSY or takes its whole effect (42_assembler.md R90). -/
theorem startTransaction_cases (s : State) (t : Txn) :
    (s.st.active = true ∧ s.startTransaction t = s.refuse .busy) ∨
    (s.st.active = false ∧ s.startTransaction t = (s.assemble t).emitFrame) := by
  unfold State.startTransaction
  cases h : s.st.active <;> simp

/-- The common checks refuse outside Complete, and then for another transaction (44_decoder.md R145). -/
theorem decodeRefusal_cases (allowed : List Txn) (s : State) :
    (s.st ≠ .complete ∧ decodeRefusal allowed s = some .notComplete) ∨
    (s.st = .complete ∧ s.txn ∉ allowed ∧ decodeRefusal allowed s = some .wrongTxn) ∨
    (s.st = .complete ∧ s.txn ∈ allowed ∧ decodeRefusal allowed s = none) := by
  unfold decodeRefusal
  by_cases h : s.st = .complete <;> by_cases h' : s.txn ∈ allowed <;> simp [h, h']

/-- A decode command is refused by the common checks, writing `cmd_err` only, or runs its body in
Complete (44_decoder.md R145). -/
theorem decodeCommand_cases (s : State) (allowed : List Txn) (body : State → Answer) :
    (s.st ≠ .complete ∧ s.decodeCommand allowed body = .next (s.refuse .notComplete)) ∨
    (s.st = .complete ∧ s.txn ∉ allowed ∧
      s.decodeCommand allowed body = .next (s.refuse .wrongTxn)) ∨
    (s.st = .complete ∧ s.txn ∈ allowed ∧ s.decodeCommand allowed body = body s) := by
  unfold State.decodeCommand
  rcases decodeRefusal_cases allowed s with ⟨h, hr⟩ | ⟨h, h', hr⟩ | ⟨h, h', hr⟩ <;> simp [*]

/-- The last header byte fails the transaction, completes a write, or leads to the body or the trailer
(43_parser.md R106). -/
theorem headerDone_cases (s : State) (h : List Byte) (b : Byte) :
    (headerOk s.txn s.txBuf h = false ∧
      s.headerDone h b = s.fail .protocolMismatch causeNone) ∨
    (headerOk s.txn s.txBuf h = true ∧ isWrite s.txn = true ∧
      s.headerDone h b = s.enterComplete) ∨
    (headerOk s.txn s.txBuf h = true ∧ isRead s.txn = true ∧
      s.headerDone h b =
        { s with decl := b, bodyRem := b, st := stateAfterCount b, cmdErr := .ok }) ∨
    (headerOk s.txn s.txBuf h = true ∧ s.txn = .devinfo ∧
      s.headerDone h b =
        { s with decl := b, objRem := b, tlvPh := .id, st := stateAfterCount b, cmdErr := .ok }) := by
  unfold State.headerDone
  cases hok : headerOk s.txn s.txBuf h with
  | false => simp
  | true => cases ht : s.txn <;> simp [isWrite, isRead]

/-- A header byte is counted, or ends the header (43_parser.md R105). -/
theorem rxHeader_cases (s : State) (b : Byte) :
    (s.hdrIdx.toNat + 1 < hdrLen s.txn ∧
      s.rxHeader b =
        { s.acceptByte b with hdrIdx := BitVec.ofNat 3 (s.hdrIdx.toNat + 1), cmdErr := .ok }) ∨
    (hdrLen s.txn ≤ s.hdrIdx.toNat + 1 ∧
      s.rxHeader b =
        ({ s.acceptByte b with hdrIdx := BitVec.ofNat 3 (s.hdrIdx.toNat + 1) } : State).headerDone
          (receivedHeader s b) b) := by
  unfold State.rxHeader
  by_cases h : s.hdrIdx.toNat + 1 < hdrLen s.txn
  · exact .inl ⟨h, by simp [h]⟩
  · exact .inr ⟨by omega, by simp [h]⟩

/-- The TLV walk touches its phase, its counters and `st` only (43_parser.md R109). -/
theorem tlvWalk_cases (s : State) (b : Byte) :
    (s.tlvPh = .id ∧ s.tlvWalk b = { s with tlvPh := .len }) ∨
    (s.tlvPh = .len ∧ b ≠ 0#8 ∧ s.tlvWalk b = { s with valRem := b, tlvPh := .val }) ∨
    (s.tlvPh = .len ∧ b = 0#8 ∧ s.tlvWalk b = s.objectDone) ∨
    (s.tlvPh = .val ∧ s.valRem - 1#8 ≠ 0#8 ∧ s.tlvWalk b = { s with valRem := s.valRem - 1#8 }) ∨
    (s.tlvPh = .val ∧ s.valRem - 1#8 = 0#8 ∧
      s.tlvWalk b = ({ s with valRem := s.valRem - 1#8 } : State).objectDone) := by
  unfold State.tlvWalk
  cases s.tlvPh with
  | id => simp
  | len => by_cases h : b = 0#8 <;> simp [h]
  | val => by_cases h : s.valRem - 1#8 = 0#8 <;> simp [h]

/-- A body byte is taken as the transaction's shape says (43_parser.md R107). -/
theorem rxBody_cases (s : State) (b : Byte) :
    (s.txn = .devinfo ∧ s.rxBody b = s.rxIdentityBody b) ∨
    (isRead s.txn = true ∧ s.rxBody b = s.rxReadBody b) ∨
    (isWrite s.txn = true ∧ s.rxBody b = { s.acceptByte b with cmdErr := .ok }) := by
  unfold State.rxBody
  cases s.txn <;> simp [isRead, isWrite]

/-- The decode check completes the transaction or fails it DECODE (43_parser.md R117). -/
theorem runDecodeCheck_cases (s : State) :
    (decodeCheck s = none ∧ s.runDecodeCheck = s.enterComplete) ∨
    (∃ c, decodeCheck s = some c ∧ s.runDecodeCheck = s.fail .decode c) := by
  unfold State.runDecodeCheck
  cases h : decodeCheck s with
  | none => exact .inl ⟨rfl, rfl⟩
  | some c => exact .inr ⟨c, rfl, rfl⟩

/-- A trailer byte is latched, fails the transaction CHECKSUM, or leads to the decode check
(43_parser.md R110, R111). -/
theorem rxTrailer_cases (s : State) (b : Byte) :
    (s.csIdx = false ∧
      s.rxTrailer b = { s with rxCs := halfOf (hi8 s.rxCs) b, csIdx := true, cmdErr := .ok }) ∨
    (s.csIdx = true ∧ halfOf b (lo8 s.rxCs) ≠ s.chkCrc ∧
      s.rxTrailer b = ({ s with rxCs := halfOf b (lo8 s.rxCs) } : State).fail .checksum causeNone) ∨
    (s.csIdx = true ∧ halfOf b (lo8 s.rxCs) = s.chkCrc ∧
      s.rxTrailer b = ({ s with rxCs := halfOf b (lo8 s.rxCs) } : State).runDecodeCheck) := by
  unfold State.rxTrailer State.checkTrailer
  cases s.csIdx with
  | false => exact .inl ⟨rfl, rfl⟩
  | true =>
    by_cases hv : halfOf b (lo8 s.rxCs) = s.chkCrc
    · exact .inr (.inr ⟨rfl, hv, by simp [hv]⟩)
    · exact .inr (.inl ⟨rfl, hv, by simp [hv]⟩)

/-- RX_BYTE by stage (43_parser.md R103). -/
theorem execRxByte_cases (b : BitVec 8) (s : State) :
    (s.st = .awaitingHeader ∧ execRxByte b s = .next (s.rxHeader b)) ∨
    (s.st = .awaitingBody ∧ execRxByte b s = .next (s.rxBody b)) ∨
    (s.st = .awaitingChecksum ∧ execRxByte b s = .next (s.rxTrailer b)) ∨
    ((s.st = .idle ∨ s.st = .sent ∨ s.st.terminal = true) ∧
      execRxByte b s = .next s.noteUnexpected) := by
  unfold execRxByte
  cases s.st <;> simp [Fsm.terminal]

/-- A configuration is loaded or refused, as it is well-formed or not (70_reset_and_hazards.md R163). -/
theorem configure_cases (s : State) (img : ConfigImage) :
    (∃ c, loadConfig img = some c ∧ s.configure img = .next { s with cfg := c }) ∨
    (loadConfig img = none ∧ s.configure img = .refused .illFormedConfiguration) := by
  unfold State.configure
  cases h : loadConfig img with
  | none => exact .inr ⟨rfl, rfl⟩
  | some c => exact .inl ⟨c, rfl, rfl⟩

/-- What one step can do: nothing without input, RESET, an instruction, or the refusal of a word that is
none (00_scope.md R12). -/
theorem step_cases (s : State) :
    (s.input = [] ∧ step s = .next s) ∨
    (∃ rest, s.input = .reset :: rest ∧ step s = .next s.dropInput.applyReset) ∨
    (∃ w rest i, s.input = .word w :: rest ∧ decode w = .ok i ∧ step s = exec i s.dropInput) ∨
    (∃ w rest e, s.input = .word w :: rest ∧ decode w = .error e ∧
      step s = .next s.dropInput.refuseIllegal) := by
  unfold step
  match h : s.input with
  | [] => exact .inl ⟨rfl, rfl⟩
  | .reset :: rest => exact .inr (.inl ⟨rest, rfl, rfl⟩)
  | .word w :: rest =>
    match hd : decode w with
    | .ok i => exact .inr (.inr (.inl ⟨w, rest, i, rfl, hd, by simp [hd]⟩))
    | .error e => exact .inr (.inr (.inr ⟨w, rest, e, rfl, hd, by simp [hd]⟩))

/-- The checksum of a sequence extended by one byte (41_checksum.md R87). -/
theorem crc16_snoc (bs : List Byte) (b : Byte) : crc16 (bs ++ [b]) = crcStep (crc16 bs) b := by
  simp [crc16]

@[simp] theorem crc16_nil : crc16 [] = crcInitValue := rfl

@[simp] theorem execAll_nil (s : State) : execAll [] s = .next s := rfl

end Sys2Proof.Machine
end

