-- ==== Sys2Proof/Laws/PerInstr.lean ====
section
/-! SUPPORT. A property of the syntax, instruction by instruction: the encoder sets no reserved argument
bit (30_encoding.md R74). -/

namespace Sys2Proof.Laws

/-- An argument that fills its op's field only has no reserved bit. -/
theorem masked_byte (b : BitVec 8) : b.setWidth 16 &&& 0xFF00#16 = 0 := by
  ext i hi
  rcases Nat.lt_or_ge i 8 with h | h
  · have : i = 0 ∨ i = 1 ∨ i = 2 ∨ i = 3 ∨ i = 4 ∨ i = 5 ∨ i = 6 ∨ i = 7 := by omega
    rcases this with rfl | rfl | rfl | rfl | rfl | rfl | rfl | rfl <;> simp
  · simp [BitVec.getLsbD_of_ge b i h, BitVec.getElem_setWidth]

theorem masked_three (t : BitVec 3) : t.setWidth 16 &&& 0xFFF8#16 = 0 := by
  revert t; decide

theorem masked_four (n : BitVec 4) : n.setWidth 16 &&& 0xFFF0#16 = 0 := by
  revert n; decide

theorem masked_eleven (a : BitVec 11) : a.setWidth 16 &&& 0xF800#16 = 0 := by
  ext i hi
  rcases Nat.lt_or_ge i 11 with h | h
  · have : i = 0 ∨ i = 1 ∨ i = 2 ∨ i = 3 ∨ i = 4 ∨ i = 5 ∨ i = 6 ∨ i = 7 ∨ i = 8 ∨ i = 9 ∨ i = 10 := by
      omega
    rcases this with rfl | rfl | rfl | rfl | rfl | rfl | rfl | rfl | rfl | rfl | rfl <;> simp
  · simp [BitVec.getLsbD_of_ge a i h, BitVec.getElem_setWidth]

@[simp] theorem wordOp_wordOf (op : BitVec 4) (arg : BitVec 16) : wordOp (wordOf op arg) = op := by
  unfold wordOp wordOf
  apply BitVec.eq_of_toNat_eq
  simp only [BitVec.extractLsb'_toNat, BitVec.toNat_append]
  have ha := arg.isLt
  have ho := op.isLt
  rw [Nat.shiftLeft_eq, Nat.mul_comm, ← Nat.two_pow_add_eq_or_of_lt ha, Nat.shiftRight_eq_div_pow]
  omega

@[simp] theorem wordArg_wordOf (op : BitVec 4) (arg : BitVec 16) : wordArg (wordOf op arg) = arg := by
  unfold wordArg wordOf
  apply BitVec.eq_of_toNat_eq
  simp only [BitVec.extractLsb'_toNat, BitVec.toNat_append]
  have ha := arg.isLt
  have ho := op.isLt
  rw [Nat.shiftLeft_eq, Nat.mul_comm, ← Nat.two_pow_add_eq_or_of_lt ha, Nat.shiftRight_eq_div_pow]
  omega

/-- The encoding of the instruction, where it is an input word, has no reserved bit set. -/
def EncodeClean.Statement (i : Instr) : Prop :=
  ∀ w, encode i = .word w → wordArg w &&& reservedMask (wordOp w) = 0

/-- An instruction that is encoded as `op` and `arg` is clean if `arg` avoids the op's mask. -/
theorem clean_of_word {i : Instr} {op : BitVec 4} {arg : BitVec 16}
    (he : encode i = .word (wordOf op arg)) (hm : arg &&& reservedMask op = 0) :
    EncodeClean.Statement i := by
  intro w hw
  rw [he] at hw
  cases hw
  simpa using hm

/-- An instruction that is encoded as a frame is no input word. -/
theorem clean_of_frame {i : Instr} {bs : List Byte} (he : encode i = .frame bs) :
    EncodeClean.Statement i := by
  intro w hw
  rw [he] at hw
  cases hw

theorem EncodeClean.reserved0 (arg : BitVec 16) : Statement (.reserved0 arg) :=
  clean_of_word rfl (by simp [reservedMask])
theorem EncodeClean.crcInit : Statement .crcInit := clean_of_word rfl (by decide)
theorem EncodeClean.crcFeed (b : BitVec 8) : Statement (.crcFeed b) :=
  clean_of_word rfl (masked_byte b)
theorem EncodeClean.crcVerify (e : BitVec 16) : Statement (.crcVerify e) :=
  clean_of_word rfl (by simp [reservedMask])
theorem EncodeClean.start (t : BitVec 3) : Statement (.start t) := clean_of_word rfl (masked_three t)
theorem EncodeClean.clear : Statement .clear := clean_of_word rfl (by decide)
theorem EncodeClean.decPstate : Statement .decPstate := clean_of_word rfl (by decide)
theorem EncodeClean.decField (i : BitVec 8) : Statement (.decField i) :=
  clean_of_word rfl (masked_byte i)
theorem EncodeClean.decWarnRestart : Statement .decWarnRestart := clean_of_word rfl (by decide)
theorem EncodeClean.decWarnNext : Statement .decWarnNext := clean_of_word rfl (by decide)
theorem EncodeClean.decDevcount : Statement .decDevcount := clean_of_word rfl (by decide)
theorem EncodeClean.decDevrec (r : BitVec 8) (k : BitVec 3) : Statement (.decDevrec r k) :=
  clean_of_word rfl (masked_eleven (k ++ r))
theorem EncodeClean.txDone (n : BitVec 4) : Statement (.txDone n) :=
  clean_of_word rfl (masked_four n)
theorem EncodeClean.rxByte (b : BitVec 8) : Statement (.rxByte b) :=
  clean_of_word rfl (masked_byte b)
theorem EncodeClean.linkFail (c : BitVec 3) : Statement (.linkFail c) :=
  clean_of_word rfl (masked_three c)
theorem EncodeClean.reservedF (arg : BitVec 16) : Statement (.reservedF arg) :=
  clean_of_word rfl (by simp [reservedMask])
theorem EncodeClean.txFrameDevinfo : Statement .txFrameDevinfo := clean_of_frame rfl
theorem EncodeClean.txFramePwrOn : Statement .txFramePwrOn := clean_of_frame rfl
theorem EncodeClean.txFramePwrOff : Statement .txFramePwrOff := clean_of_frame rfl
theorem EncodeClean.txFramePwrState : Statement .txFramePwrState := clean_of_frame rfl
theorem EncodeClean.txFrameRegs : Statement .txFrameRegs := clean_of_frame rfl
theorem EncodeClean.txFrameBatt : Statement .txFrameBatt := clean_of_frame rfl
theorem EncodeClean.txFrameWarn : Statement .txFrameWarn := clean_of_frame rfl

end Sys2Proof.Laws
end

