-- ==== Sys2Proof/Tests/Slice0.lean ====
section
/-! SUPPORT. Tests: the checks of WellFormed on ill-formed terms, written-out words and frames, one step of
each instruction against the vectors of 95_test_vectors.md, and a witness for the hypotheses of each
statement, by its name. -/

namespace Sys2Proof.Tests

set_option maxRecDepth 20000

open Machine Statement

/-! ### The example configuration and states -/

/-- The example configuration of 95_test_vectors.md 0.1. -/
def exampleConfig : Config where
  rxbufCap := 65543
  regRom := [⟨1#16, 0#8, .u16 1#2⟩, ⟨2#16, 2#8, .u32 0#2⟩, ⟨3#16, 6#8, .bit 0#4⟩,
    ⟨4#16, 6#8, .bit 15#4⟩, ⟨5#16, 84#8, .u16 2#2⟩]
  battRom := [⟨0x10#16, 0#8, .u16 1#2⟩, ⟨0x11#16, 64#8, .u16 0#2⟩]
  warnRom := [⟨3#16, 1#16, 0#8, 15#4⟩, ⟨7#16, 2#16, 2#8, 0#4⟩, ⟨9#16, 5#16, 50#8, 7#4⟩]
  wf := by decide

/-- The state after RESET with the example configuration. -/
def start : State := { State.reset with cfg := exampleConfig }

/-- A memory that holds these bytes from index `i` on. -/
def place (i : Nat) : List Byte → Memory
  | [] => []
  | b :: bs => cellFor i b ++ place (i + 1) bs

/-- The bytes of the value `1=A;2=B;3=C;4=D;5=E;6=F`. -/
def recordBytes : List Byte :=
  [0x31#8, 0x3D#8, 0x41#8, 0x3B#8, 0x32#8, 0x3D#8, 0x42#8, 0x3B#8, 0x33#8, 0x3D#8, 0x43#8, 0x3B#8,
   0x34#8, 0x3D#8, 0x44#8, 0x3B#8, 0x35#8, 0x3D#8, 0x45#8, 0x3B#8, 0x36#8, 0x3D#8, 0x46#8]

/-- The header and body of FR_ID2 (95_test_vectors.md 0.2). -/
def identityBytes : List Byte :=
  [0x01#8, 0x2B#8, 0x0E#8, 0x03#8, 0x03#8, 0x00#8, 0x00#8, 0x02#8,
   0x87#8, 0x02#8, 0x00#8, 0x02#8, 0x01#8, 0x17#8] ++ recordBytes

/-- Complete after FR_ID2. -/
def identityDone : State :=
  { start with
    st := .complete, txn := .devinfo, rxBuf := place 0 identityBytes, rxLen := 37#17, decl := 2#8
    chkCrc := 0x0558#16, rxCs := 0x0558#16 }

/-- Complete after FR_REGS. -/
def regsDone : State :=
  { start with
    st := .complete, txn := .regs, rxLen := 89#17, decl := 86#8
    rxBuf := place 0 [0x01#8, 0x03#8, 0x56#8, 0x08#8, 0xFD#8, 0x00#8, 0x01#8, 0xE2#8, 0x40#8, 0x80#8,
      0x01#8] ++ place 87 [0x13#8, 0x88#8] }

/-- Complete after FR_BATT. -/
def battDone : State :=
  { start with
    st := .complete, txn := .batt, rxLen := 69#17, decl := 66#8
    rxBuf := place 0 [0x01#8, 0x03#8, 0x42#8, 0x02#8, 0x1C#8] ++ place 67 [0x00#8, 0x02#8] }

/-- Complete after FR_WARN. -/
def warnDone : State :=
  { start with
    st := .complete, txn := .warn, rxLen := 55#17, decl := 52#8
    rxBuf := place 0 [0x01#8, 0x03#8, 0x34#8, 0x00#8, 0x01#8, 0x80#8] ++ place 53 [0x01#8] }

/-- Complete after the power-state response of value `v`. -/
def pstateDone (v : BitVec 16) : State :=
  { start with
    st := .complete, txn := .pwrState, rxLen := 5#17, decl := 2#8
    rxBuf := place 0 [0x01#8, 0x03#8, 0x02#8, hi8 v, lo8 v] }

/-- An active transaction `t` in the state `st`, its request assembled. -/
def active (t : Txn) (st : Fsm) : State := { (start.assemble t).emitFrame with st := st }

/-- A register of the next state, if the answer is one. -/
def look {α : Type} (f : State → α) : Answer → Option α
  | .next t => some (f t)
  | .fault _ => none
  | .refused _ => none

/-! ### WellFormed refuses ill-formed terms -/

/-- 30_encoding.md R73, R75: the operand values that are refused ILLEGAL. -/
theorem test_ill_formed_instructions :
    (Instr.reserved0 0x1234#16).wellFormed = false ∧ (Instr.reservedF 0#16).wellFormed = false ∧
    (Instr.start 7#3).wellFormed = false ∧ (Instr.decDevrec 0#8 0#3).wellFormed = false ∧
    (Instr.decDevrec 0#8 7#3).wellFormed = false ∧ (Instr.linkFail 0#3).wellFormed = false ∧
    (Instr.linkFail 2#3).wellFormed = false ∧ (Instr.linkFail 5#3).wellFormed = false ∧
    (Instr.start 6#3).wellFormed = true ∧ (Instr.linkFail 4#3).wellFormed = true := by decide

/-- 44_decoder.md R129: off at the end of each table, in and out. -/
theorem test_ill_formed_field_entries :
    FieldEntry.wellFormed 86 ⟨0#16, 85#8, .u16 0#2⟩ = false ∧
    FieldEntry.wellFormed 86 ⟨0#16, 84#8, .u16 0#2⟩ = true ∧
    FieldEntry.wellFormed 86 ⟨0#16, 83#8, .u32 0#2⟩ = false ∧
    FieldEntry.wellFormed 86 ⟨0#16, 82#8, .u32 0#2⟩ = true ∧
    FieldEntry.wellFormed 66 ⟨0#16, 65#8, .bit 0#4⟩ = false ∧
    FieldEntry.wellFormed 66 ⟨0#16, 64#8, .bit 0#4⟩ = true := by decide

/-- 44_decoder.md R135. -/
theorem test_ill_formed_warning_entries :
    WarnEntry.wellFormed ⟨0#16, 0#16, 51#8, 0#4⟩ = false ∧
    WarnEntry.wellFormed ⟨0#16, 0#16, 50#8, 0#4⟩ = true ∧
    warnEntryOfWord 0x000700020210#48 = none := by decide

/-- 44_decoder.md R129: the reserved kind, a scale beside BIT, a bit beside U16 and U32. -/
theorem test_ill_formed_field_words :
    fieldEntryOfWord 0x000100C0#32 = none ∧ fieldEntryOfWord 0x00010090#32 = none ∧
    fieldEntryOfWord 0x00010001#32 = none ∧ fieldEntryOfWord 0x00010041#32 = none := by decide

/-- 00_scope.md R7: a ROM of more than 256 entries, and RXBUF_CAP outside its bounds. -/
theorem test_ill_formed_configurations :
    warnRomWellFormed (List.replicate 257 ⟨0#16, 0#16, 0#8, 0#4⟩) = false ∧
    fieldRomWellFormed 86 (List.replicate 257 ⟨0#16, 0#8, .u16 0#2⟩) = false ∧
    ConfigData.wellFormed ⟨257, [], [], []⟩ = false ∧
    ConfigData.wellFormed ⟨65544, [], [], []⟩ = false ∧
    ConfigData.wellFormed ⟨258, [], [], []⟩ = true := by decide

/-- 70_reset_and_hazards.md R163: an image with one bad word is refused, the example one is loaded. -/
theorem test_configure :
    look State.cfg (State.reset.configure ⟨258, [0x000100C0#32], [], []⟩) = none ∧
    look State.cfg (State.reset.configure ⟨65543,
      [0x00010010#32, 0x00020240#32, 0x00030680#32, 0x0004068F#32, 0x00055420#32],
      [0x00100010#32, 0x00114000#32],
      [0x00030001000F#48, 0x000700020200#48, 0x000900053207#48]⟩) = some exampleConfig := by decide

/-! ### Decoding of written-out words and frames -/

/-- 30_encoding.md R72: one word of each op, its bits written out. -/
theorem test_decode_words :
    decode 0b00000001001000110100#20 = .ok (.reserved0 0x1234#16) ∧
    decode 0b00010000000000000000#20 = .ok .crcInit ∧
    decode 0b00100000000010100101#20 = .ok (.crcFeed 0xA5#8) ∧
    decode 0b00110100101100110111#20 = .ok (.crcVerify 0x4B37#16) ∧
    decode 0b01000000000000000110#20 = .ok (.start 6#3) ∧
    decode 0b01010000000000000000#20 = .ok .clear ∧
    decode 0b01100000000000000000#20 = .ok .decPstate ∧
    decode 0b01110000000011111110#20 = .ok (.decField 0xFE#8) ∧
    decode 0b10000000000000000000#20 = .ok .decWarnRestart ∧
    decode 0b10010000000000000000#20 = .ok .decWarnNext ∧
    decode 0b10100000000000000000#20 = .ok .decDevcount ∧
    decode 0b10110000010000000001#20 = .ok (.decDevrec 0x01#8 4#3) ∧
    decode 0b11000000000000001001#20 = .ok (.txDone 9#4) ∧
    decode 0b11010000000010000111#20 = .ok (.rxByte 0x87#8) ∧
    decode 0b11100000000000000011#20 = .ok (.linkFail 3#3) ∧
    decode 0b11110000000000000001#20 = .ok (.reservedF 1#16) := by decide

/-- 30_encoding.md R74: the lowest reserved bit of each op that has one. -/
theorem test_decode_refuses_reserved_bits :
    ([0x10001#20, 0x20100#20, 0x40008#20, 0x50001#20, 0x60001#20, 0x70100#20, 0x80001#20, 0x90001#20,
      0xA0001#20, 0xB0800#20, 0xC0010#20, 0xD0100#20, 0xE0008#20].all fun w =>
        decode w == .error (.reservedBits (wordOp w) (wordArg w))) = true := by decide

/-- 30_encoding.md R60: the seven frames, in wire order. -/
theorem test_decode_frames :
    decodeFrame [0x01#8, 0x2B#8, 0x0E#8, 0x03#8, 0x87#8, 0x31#8, 0x75#8] = .ok .txFrameDevinfo ∧
    decodeFrame [0x01#8, 0x06#8, 0x2B#8, 0x15#8, 0x00#8, 0x01#8, 0x50#8, 0x2A#8] = .ok .txFramePwrOn ∧
    decodeFrame [0x01#8, 0x06#8, 0x2B#8, 0x16#8, 0x00#8, 0x01#8, 0xA0#8, 0x2A#8] = .ok .txFramePwrOff ∧
    decodeFrame [0x01#8, 0x03#8, 0x2B#8, 0x14#8, 0x00#8, 0x01#8, 0xCD#8, 0xEA#8] = .ok .txFramePwrState ∧
    decodeFrame [0x01#8, 0x03#8, 0x2A#8, 0xF8#8, 0x00#8, 0x2B#8, 0x8C#8, 0x3C#8] = .ok .txFrameRegs ∧
    decodeFrame [0x01#8, 0x03#8, 0x2E#8, 0xE0#8, 0x00#8, 0x21#8, 0x8D#8, 0x0C#8] = .ok .txFrameBatt ∧
    decodeFrame [0x01#8, 0x03#8, 0xA0#8, 0xDC#8, 0x00#8, 0x1A#8, 0x27#8, 0xFB#8] = .ok .txFrameWarn ∧
    decodeFrame [0x01#8] = .error (.unknownFrame [0x01#8]) := by decide

/-- The host's numbering: a word row, a frame row either way round, and bits above an input word's. -/
theorem test_decode_table_words :
    decodeTableWord 24 0xB0401 = some (.decDevrec 0x01#8 4#3) ∧
    decodeTableWord 24 0x100000 = none ∧ decodeTableWord 24 0x20100 = none ∧
    decodeTableWord 56 0x753187030E2B01 = some .txFrameDevinfo ∧
    decodeTableWord 56 0x012B0E03873175 = some .txFrameDevinfo ∧
    decodeTableWord 64 0x2A500100152B0601 = some .txFramePwrOn := by decide

/-- The very next step runs the placed word or the START of the placed frame. -/
theorem test_with_fetch_word :
    look State.genCrc (step (State.reset.withFetchWord 24 0x20000)) = some 0x40BF#16 ∧
    look State.txn (step (State.reset.withFetchWord 64 0x2A500100152B0601)) = some .pwrOn ∧
    look State.cmdErr (step (State.reset.withFetchWord 24 0x20100)) = some .illegal := by decide

/-! ### One step of each instruction -/

/-- 95_test_vectors.md E1, E2. -/
theorem test_reserved :
    look State.cmdErr (exec (.reserved0 0#16) start) = some .illegal ∧
    look State.cmdErr (exec (.reservedF 0xFFFF#16) start) = some .illegal := by decide

/-- 41_checksum.md R83 to R85, with the step values of 95_test_vectors.md L1.1. -/
theorem test_crc_commands :
    look State.genCrc (exec .crcInit { start with genCrc := 0x1234#16 }) = some 0xFFFF#16 ∧
    look State.genCrc (exec (.crcFeed 0x01#8) start) = some 0x807E#16 ∧
    look State.genCrc (exec (.crcFeed 0xFF#8) start) = some 0x00FF#16 ∧
    look State.crcOk (exec (.crcVerify 0xFFFF#16) start) = some true ∧
    look State.crcOk (exec (.crcVerify 0x7FFF#16) { start with crcOk := true }) = some false := by
  decide

/-- 95_test_vectors.md L1.2, A1: START DEVINFO from Idle, and BUSY when active. -/
theorem test_start :
    look State.events (exec (.start 0#3) start) =
      some [.txFrame [0x01#8, 0x2B#8, 0x0E#8, 0x03#8, 0x87#8, 0x31#8, 0x75#8]] ∧
    look (fun t => (t.genCrc, t.txLen, t.st)) (exec (.start 4#3) start) =
      some (0x3C8C#16, 8#4, .sent) ∧
    look (fun t => (t.cmdErr, t.txn)) (exec (.start 4#3) (active .pwrOn .sent)) =
      some (.busy, .pwrOn) := by decide

/-- 42_assembler.md R90: a 7-byte frame keeps the last byte of the frame before it. -/
theorem test_start_keeps_last_byte :
    look (fun t => t.txBuf.toList) (exec (.start 0#3) { active .pwrOn .idle with st := .idle }) =
      some [0x01#8, 0x2B#8, 0x0E#8, 0x03#8, 0x87#8, 0x31#8, 0x75#8, 0x2A#8] := by decide

/-- 43_parser.md R100: the results go, `txn`, `gen_crc` and the TX buffer stay. -/
theorem test_clear :
    look (fun t => (t.st, t.rxLen, t.txn, t.genCrc)) (exec .clear (active .pwrState .failed)) =
      some (.idle, 0#17, .pwrState, 0xEACD#16) ∧
    look State.st (exec .clear (active .pwrState .awaitingBody)) = some .awaitingBody := by decide

/-- 95_test_vectors.md L1.5: value 3; 44_decoder.md R127: a value that has no class. -/
theorem test_dec_pstate :
    look (fun t => (t.dout, t.daux)) (exec .decPstate (pstateDone 3#16)) = some (3#32, 3#16) ∧
    look (fun t => (t.dout, t.daux)) (exec .decPstate (pstateDone 0x0100#16)) =
      some (256#32, 4#16) := by decide

/-- 95_test_vectors.md Q6: U16, U32, the two end bits, the last slot and RANGE. -/
theorem test_dec_field :
    look (fun t => (t.dout, t.daux)) (exec (.decField 0#8) regsDone) = some (2301#32, 10#16) ∧
    look (fun t => (t.dout, t.daux)) (exec (.decField 1#8) regsDone) = some (123456#32, 1#16) ∧
    look (fun t => (t.dout, t.daux)) (exec (.decField 2#8) regsDone) = some (1#32, 1#16) ∧
    look (fun t => (t.dout, t.daux)) (exec (.decField 3#8) regsDone) = some (1#32, 1#16) ∧
    look (fun t => (t.dout, t.daux)) (exec (.decField 4#8) regsDone) = some (5000#32, 100#16) ∧
    look State.cmdErr (exec (.decField 5#8) regsDone) = some .range := by decide

/-- FR_BATT: `02 1C` is 540, `00 02` is 2 (95_test_vectors.md 0.2). -/
theorem test_dec_field_batt :
    look (fun t => (t.dout, t.daux)) (exec (.decField 0#8) battDone) = some (540#32, 10#16) ∧
    look (fun t => (t.dout, t.daux)) (exec (.decField 1#8) battDone) = some (2#32, 1#16) := by decide

/-- 95_test_vectors.md Q5. -/
theorem test_dec_warn_restart :
    look (fun t => (t.warnPtr, t.dend)) (exec .decWarnRestart
      { warnDone with warnPtr := 3#9, dend := true }) = some (0#9, false) := by decide

/-- 95_test_vectors.md Q5: the second and the fourth DEC_WARN_NEXT. -/
theorem test_dec_warn_next :
    look (fun t => (t.dout, t.daux, t.warnPtr)) (exec .decWarnNext { warnDone with warnPtr := 1#9 }) =
      some (7#32, 2#16, 2#9) ∧
    look (fun t => (t.dvalid, t.dend, t.warnPtr)) (exec .decWarnNext
      { warnDone with warnPtr := 3#9 }) = some (false, true, 3#9) := by decide

/-- 95_test_vectors.md Q3. -/
theorem test_dec_devcount :
    look (fun t => (t.dout, t.daux, t.dvalid)) (exec .decDevcount identityDone) =
      some (2#32, 1#16, true) := by decide

/-- 95_test_vectors.md Q3: keys 1 and 6 of record 0, and record 1. -/
theorem test_dec_devrec :
    look (fun t => (t.dout, t.daux)) (exec (.decDevrec 0#8 1#3) identityDone) = some (16#32, 1#16) ∧
    look (fun t => (t.dout, t.daux)) (exec (.decDevrec 0#8 6#3) identityDone) = some (36#32, 1#16) ∧
    look State.cmdErr (exec (.decDevrec 1#8 1#3) identityDone) = some .range := by decide

/-- 43_parser.md R102: all of 8 bytes, and 7 of 8. -/
theorem test_tx_done :
    look State.st (exec (.txDone 8#4) (active .regs .sent)) = some .awaitingHeader ∧
    look (fun t => (t.st, t.errKind, t.errCause)) (exec (.txDone 7#4) (active .regs .sent)) =
      some (.failed, .transport, 2#3) := by decide

/-- 95_test_vectors.md L1.4 steps 3 and 10, and P36: after the id and length bytes of an object. The last
clause: the header is read as at the start of the step, also where the byte is stored over it (R13, R55). -/
theorem test_rx_byte_header_and_body :
    look (fun t => (t.chkCrc, t.rxLen, t.hdrIdx)) (exec (.rxByte 0x01#8)
      (active .devinfo .awaitingHeader)) = some (0x807E#16, 1#17, 1#3) ∧
    look (fun t => (t.st, t.objRem, t.chkCrc)) (exec (.rxByte 0x01#8)
      { active .devinfo .awaitingHeader with
        rxBuf := place 0 [0x01#8, 0x2B#8, 0x0E#8, 0x03#8, 0x03#8], rxLen := 7#17, hdrIdx := 7#3
        chkCrc := 0x5E94#16 }) = some (.awaitingBody, 1#8, 0x6F9E#16) ∧
    look (fun t => (t.tlvPh, t.valRem, t.objRem)) (exec (.rxByte 0x03#8)
      { active .devinfo .awaitingBody with
        rxLen := 9#17, decl := 1#8, objRem := 1#8, tlvPh := .len }) = some (.val, 3#8, 1#8) ∧
    look (fun t => (t.st, t.rxBuf.read 0)) (exec (.rxByte 0x02#8)
      { active .pwrState .awaitingHeader with rxBuf := place 0 [0x01#8, 0x03#8], hdrIdx := 2#3 }) =
      some (.awaitingBody, 0x02#8) := by decide

/-- 95_test_vectors.md L1.4 steps 15 and 16, on a checksum of 0x8256: low byte, then high byte. -/
theorem test_rx_byte_trailer :
    look (fun t => (t.rxCs, t.csIdx)) (exec (.rxByte 0x56#8)
      { active .devinfo .awaitingChecksum with chkCrc := 0x8256#16 }) = some (0x0056#16, true) ∧
    look (fun t => (t.st, t.errKind)) (exec (.rxByte 0x83#8)
      { active .devinfo .awaitingChecksum with
        chkCrc := 0x8256#16, rxCs := 0x0056#16, csIdx := true }) = some (.failed, .checksum) := by
  decide

/-- 43_parser.md R112, 95_test_vectors.md T1: err=1/3/3. -/
theorem test_link_fail :
    look (fun t => (t.errKind, t.errCause, t.errState)) (exec (.linkFail 3#3)
      (active .batt .awaitingBody)) = some (.transport, 3#3, .awaitingBody) ∧
    look State.cmdErr (exec (.linkFail 2#3) (active .batt .awaitingBody)) = some .illegal := by decide

/-- 95_test_vectors.md L1.2: the checksum each frame row leaves in `gen_crc`. -/
theorem test_tx_frames :
    look State.genCrc (exec .txFrameDevinfo start) = some 0x7531#16 ∧
    look State.genCrc (exec .txFramePwrOn start) = some 0x2A50#16 ∧
    look State.genCrc (exec .txFramePwrOff start) = some 0x2AA0#16 ∧
    look State.genCrc (exec .txFramePwrState start) = some 0xEACD#16 ∧
    look State.genCrc (exec .txFrameRegs start) = some 0x3C8C#16 ∧
    look State.genCrc (exec .txFrameBatt start) = some 0x0C8D#16 ∧
    look State.genCrc (exec .txFrameWarn start) = some 0xFB27#16 := by decide

/-- 95_test_vectors.md Q3, the end state's STATUS and RX_LEN, and the RX window of its record. -/
theorem test_read_port :
    hostRead { identityDone with dvalid := true } 0x00#8 = 0x0815#32 ∧
    hostRead identityDone 0x05#8 = 37#32 ∧ hostRead (active .pwrOn .sent) 0x0C#8 = 0x152B0601#32 ∧
    rxWindow identityDone 36#17 = 0x46#8 ∧ rxWindow identityDone 37#17 = 0x00#8 := by decide

/-- 44_decoder.md R134: address 40156 and 40157, and the entry that is adjusted by 4 bytes. -/
theorem test_build_warn_entry :
    (buildWarnEntry 40156 15#4 3#16 1#16 false).map WarnEntry.off = some 0#8 ∧
    (buildWarnEntry 40157 0#4 7#16 2#16 true).map WarnEntry.off = some 6#8 ∧
    buildWarnEntry 40155 0#4 0#16 0#16 false = none := by decide

/-! ### The hypotheses of the statements can be met -/

/-- A state with `x` as its only input. -/
def given (x : Input) (s : State) : State := { s with input := [x] }

/-- Any list of byte values as a memory keeps the hypothesis of a canonical RX buffer. -/
theorem test_example_memories_canonical :
    identityDone.rxBuf.wf = true ∧ regsDone.rxBuf.wf = true ∧ battDone.rxBuf.wf = true ∧
    warnDone.rxBuf.wf = true ∧ (pstateDone 3#16).rxBuf.wf = true := by decide

theorem test_meets_ResetSetsEveryRegister :
    ∃ (s : State) (rest : List Input), s.input = .reset :: rest :=
  ⟨given .reset regsDone, [], rfl⟩

theorem test_meets_StepRunsDecodedInstruction :
    (∃ (s : State) (w : InputWord) (rest : List Input) (i : Instr),
      s.input = .word w :: rest ∧ decode w = .ok i) ∧
    (∃ s : State, s.input = []) :=
  ⟨⟨given (.word 0x200A5#20) start, 0x200A5#20, [], .crcFeed 0xA5#8, rfl, by decide⟩, start, rfl⟩

/-- Every row that reserves a bit, at the lowest and the highest argument that sets one. -/
theorem test_meets_ReservedBitsAreRefusedIllegal :
    (reservedMasks.all fun row =>
      row.2 == 0#16 || (0xFFFF#16 &&& row.2 != 0#16 && (row.2 &&& -row.2) &&& row.2 != 0#16)) = true ∧
    ∃ s : State, s.input = [.word (0x1#4 ++ 0x0001#16)] :=
  ⟨by decide, given (.word (0x1#4 ++ 0x0001#16)) start, rfl⟩

theorem test_meets_ReservedOpcodesAreRefusedIllegal :
    (0x0#4 ∈ [0x0#4, 0xF#4] ∧ ∃ s : State, s.input = [.word (0x0#4 ++ 0x0000#16)]) ∧
    (0xF#4 ∈ [0x0#4, 0xF#4] ∧ ∃ s : State, s.input = [.word (0xF#4 ++ 0xFFFF#16)]) :=
  ⟨⟨by decide, given (.word (0x0#4 ++ 0x0000#16)) start, rfl⟩,
    by decide, given (.word (0xF#4 ++ 0xFFFF#16)) start, rfl⟩

theorem test_meets_EncodeInvertsDecode :
    decode 0x00000#20 = .ok (.reserved0 0#16) ∧ decode 0xB07FF#20 = .ok (.decDevrec 0xFF#8 7#3) ∧
    decode 0xFFFFF#20 = .ok (.reservedF 0xFFFF#16) := by decide

theorem test_meets_CrcInitSetsTheAccumulator :
    2 ^ 0 ≤ (0x0001#16).toNat ∧ ∃ s : State, s.input = [.word (0x1#4 ++ 0x0001#16)] :=
  ⟨by decide, given (.word (0x1#4 ++ 0x0001#16)) start, rfl⟩

theorem test_meets_CrcFeedAddsOneByte :
    2 ^ 8 ≤ (0x0100#16).toNat ∧ ∃ s : State, s.input = [.word (0x2#4 ++ 0x0100#16)] :=
  ⟨by decide, given (.word (0x2#4 ++ 0x0100#16)) start, rfl⟩

theorem test_meets_CrcVerifyReportsEquality :
    start.genCrc = 0xFFFF#16 ∧ start.genCrc ≠ 0x0000#16 := by decide

theorem test_meets_RequestFramesAreTheTables : requestTable.length = 7 := by decide

/-- The first reserved argument, the two ends of the selector, and a state of each kind. -/
theorem test_meets_StartAssemblesAndEmitsTheRequest :
    2 ^ 3 ≤ (0x0008#16).toNat ∧ 0#3 ≠ 7#3 ∧ 6#3 ≠ 7#3 ∧
    (active .warn .sent).st ∈ [Fsm.sent, Fsm.awaitingHeader, Fsm.awaitingBody, Fsm.awaitingChecksum] ∧
    (active .warn .awaitingChecksum).st ∈
      [Fsm.sent, Fsm.awaitingHeader, Fsm.awaitingBody, Fsm.awaitingChecksum] ∧
    start.st ∈ [Fsm.idle, Fsm.complete, Fsm.failed] ∧
    (active .warn .failed).st ∈ [Fsm.idle, Fsm.complete, Fsm.failed] ∧
    requestTable.map RequestRow.selector = [0#3, 1#3, 2#3, 3#3, 4#3, 5#3, 6#3] := by decide

theorem test_meets_FrameRowsRunAsTheirStart :
    requestTable.length = 7 ∧ start.st ∈ [Fsm.idle, Fsm.complete, Fsm.failed] ∧
    (active .warn .failed).st ∈ [Fsm.idle, Fsm.complete, Fsm.failed] := by decide

theorem test_meets_ClearReturnsToIdle :
    2 ^ 0 ≤ (0x0001#16).toNat ∧
    (active .regs .sent).st ∈ [Fsm.sent, Fsm.awaitingHeader, Fsm.awaitingBody, Fsm.awaitingChecksum] ∧
    regsDone.st ∈ [Fsm.idle, Fsm.complete, Fsm.failed] := by decide

theorem test_meets_ActiveTransactionCannotBeCancelled :
    (∃ (i : Instr) (s t : State), s.st.active = true ∧ exec i s = .next t ∧ transportWord i = false) ∧
    (active .regs .sent).st.active = true ∧ (active .regs .awaitingChecksum).st.active = true ∧
    0#3 ≠ 7#3 ∧ 6#3 ≠ 7#3 :=
  ⟨⟨.clear, active .regs .sent, _, rfl, rfl, rfl⟩, by decide⟩

/-- One byte less than the frame, and the whole frame. -/
theorem test_meets_TxDoneAcceptsOrFailsShortWrite :
    2 ^ 4 ≤ (0x0010#16).toNat ∧ start.st ≠ .sent ∧
    (active .regs .sent).st = .sent ∧ (7#4).toNat < (active .regs .sent).txLen.toNat ∧
    (active .regs .sent).txLen.toNat ≤ (8#4).toNat := by decide

theorem test_meets_UnexpectedEventsOnlySetStray :
    start.st ≠ .sent ∧ start.st ∈ [Fsm.idle, Fsm.sent, Fsm.complete, Fsm.failed] ∧
    regsDone.st ∈ [Fsm.idle, Fsm.complete, Fsm.failed] ∧ 4#3 ∈ [1#3, 3#3, 4#3] := by decide

theorem test_meets_LinkFailFailsAnActiveTransaction :
    2 ^ 3 ≤ (0x0008#16).toNat ∧ 2#3 ∉ [1#3, 3#3, 4#3] ∧ 7#3 ∉ [1#3, 3#3, 4#3] ∧
    1#3 ∈ [1#3, 3#3, 4#3] ∧ (active .batt .awaitingBody).st.active = true ∧
    regsDone.st.active = false := by decide

/-- The first header byte, and the last but one. -/
theorem test_meets_HeaderByteIsTaken :
    let s : State := active .devinfo .awaitingHeader
    let s' : State := { s with hdrIdx := 6#3, rxLen := 6#17 }
    s.st = .awaitingHeader ∧ s.rxBuf.wf = true ∧ s.hdrIdx.toNat + 1 < hdrLen s.txn ∧
    s'.rxBuf.wf = true ∧ s'.hdrIdx.toNat + 1 < hdrLen s'.txn := by decide

/-- Before the last header byte of a transaction of each kind. -/
def lastHeader (t : Txn) (h : List Byte) : State :=
  { active t .awaitingHeader with
    rxBuf := place 0 h, rxLen := BitVec.ofNat 17 h.length, hdrIdx := BitVec.ofNat 3 h.length }

theorem test_meets_LastHeaderByteDecides :
    let s := lastHeader .devinfo [0x01#8, 0x2B#8, 0x0E#8, 0x03#8, 0x03#8, 0x00#8, 0x00#8]
    let r := lastHeader .regs [0x01#8, 0x03#8]
    let w := lastHeader .pwrOn [0x01#8, 0x06#8, 0x2B#8, 0x15#8, 0x00#8, 0x01#8, 0x50#8]
    (s.st = .awaitingHeader ∧ s.rxBuf.wf = true ∧ hdrLen s.txn ≤ s.hdrIdx.toNat + 1 ∧
      s.txn = .devinfo ∧
      (s.rxBuf.bytes 0 (hdrLen s.txn - 1) ++ [0#8]).take 5 =
        [0x01#8, 0x2B#8, 0x0E#8, 0x03#8, 0x03#8]) ∧
    (r.st = .awaitingHeader ∧ r.rxBuf.wf = true ∧ hdrLen r.txn ≤ r.hdrIdx.toNat + 1 ∧
      isRead r.txn = true ∧
      (r.rxBuf.bytes 0 (hdrLen r.txn - 1) ++ [86#8]).take 2 = [0x01#8, 0x03#8]) ∧
    (w.st = .awaitingHeader ∧ w.rxBuf.wf = true ∧ hdrLen w.txn ≤ w.hdrIdx.toNat + 1 ∧
      isWrite w.txn = true ∧
      w.rxBuf.bytes 0 (hdrLen w.txn - 1) ++ [0x2A#8] = w.txBuf.toList ∧
      w.rxBuf.bytes 0 (hdrLen w.txn - 1) ++ [0x2B#8] ≠ w.txBuf.toList) := by decide

/-- The last body byte and the first of 86. -/
theorem test_meets_ReadBodyByteCountsDown :
    let s : State := { active .regs .awaitingBody with rxLen := 88#17, decl := 86#8, bodyRem := 1#8 }
    let s' : State := { active .regs .awaitingBody with rxLen := 3#17, decl := 86#8, bodyRem := 86#8 }
    s.st = .awaitingBody ∧ isRead s.txn = true ∧ s.rxBuf.wf = true ∧ s.bodyRem ≠ 0#8 ∧
    s'.bodyRem ≠ 0#8 ∧ s'.rxBuf.wf = true := by decide

/-- An identity body at a phase, with a number of value bytes left. -/
def walking (ph : TlvPhase) (left : BitVec 8) : State :=
  { active .devinfo .awaitingBody with
    rxBuf := place 0 [0x01#8, 0x2B#8, 0x0E#8, 0x03#8, 0x03#8, 0x00#8, 0x00#8, 0x01#8]
    rxLen := 8#17, decl := 1#8, objRem := 1#8, tlvPh := ph, valRem := left }

/-- Each phase; in the value phase the last byte and another. -/
theorem test_meets_IdentityBodyByteWalksTheObjects :
    [walking .id 0#8, walking .len 0#8, walking .val 1#8, walking .val 255#8].all (fun s =>
      s.st == .awaitingBody && s.txn == .devinfo && s.rxBuf.wf && s.objRem != 0#8
        && (s.tlvPh != .val || s.valRem != 0#8)) = true := by decide

/-- A trailer under way on a checksum, with the low byte latched. -/
def trailing (t : Txn) (crc : BitVec 16) (cs : Bool) : State :=
  { active t .awaitingChecksum with chkCrc := crc, rxCs := halfOf 0#8 (lo8 crc), csIdx := cs }

theorem test_meets_TrailerIsLatchedAndCompared :
    let s := trailing .regs 0x3A18#16 false
    let s' := trailing .regs 0x3A18#16 true
    s.st = .awaitingChecksum ∧ s.csIdx = false ∧ s'.st = .awaitingChecksum ∧ s'.csIdx = true ∧
    s'.chkCrc.toNat ≠ (s'.rxCs.extractLsb' 0 8).toNat + 256 * (0x3B#8).toNat ∧
    s'.chkCrc.toNat = (s'.rxCs.extractLsb' 0 8).toNat + 256 * (0x3A#8).toNat := by decide

/-- An overflow, the expected length, and another length. -/
theorem test_meets_MatchingTrailerRunsTheDecodeCheck :
    let s := trailing .regs 0x3A18#16 true
    s.st = .awaitingChecksum ∧ s.csIdx = true ∧ s.chkCrc = 0x3A#8 ++ s.rxCs.extractLsb' 0 8 ∧
    ({ s with ovf := true } : State).ovf = true ∧ s.ovf = false ∧ isRead s.txn = true ∧
    ({ s with decl := 86#8 } : State).decl.toNat = expLen s.txn ∧
    ({ s with decl := 85#8 } : State).decl.toNat ≠ expLen s.txn := by decide

/-- An identity body of a good record, and one whose count object is one byte long. -/
theorem test_meets_IdentityDecodeCheckFindsTheFirstBadObject :
    let s : State := { trailing .devinfo 0x0558#16 true with
      rxBuf := place 0 identityBytes, rxLen := 37#17, decl := 2#8 }
    let s' : State := { s with rxBuf := place 8 [0x87#8, 0x01#8, 0x05#8], decl := 1#8 }
    (s.st = .awaitingChecksum ∧ s.csIdx = true ∧ s.txn = .devinfo ∧ s.ovf = false ∧
      s.chkCrc = 0x05#8 ++ s.rxCs.extractLsb' 0 8) ∧
    ((objects s.rxBuf s.decl).all fun o =>
      (o.id != 0x87#8 || o.value.len == 2) &&
      (o.id == 0x87#8 || [1#3, 2#3, 3#3, 4#3, 5#3, 6#3].all fun k =>
        (recordField s.rxBuf o.value k).isSome)) = true ∧
    objects s'.rxBuf s'.decl = [] ++ ⟨0x87#8, ⟨10, 1⟩⟩ :: [] := by decide

theorem test_meets_ObjectsLieEndToEndFromIndexEight :
    objects identityDone.rxBuf 2#8 = [] ++ ⟨0x87#8, ⟨10, 2⟩⟩ :: ⟨0x01#8, ⟨14, 23⟩⟩ :: [] ∧
    (objects identityDone.rxBuf 2#8).head? = some ⟨0x87#8, ⟨10, 2⟩⟩ := by decide

/-- The first and the last key of the record, and where a later key's segment would stand. -/
theorem test_meets_RecordFieldIsTheLastSegmentWithItsKey :
    recordField identityDone.rxBuf ⟨14, 23⟩ 1#3 = some ⟨16, 1⟩ ∧
    recordField identityDone.rxBuf ⟨14, 23⟩ 6#3 = some ⟨36, 1⟩ ∧
    (16 ≤ 18 ∧ 18 + 1 < 14 + 23 ∧ identityDone.rxBuf.read (18 - 1) = 0x3B#8) ∧
    identityDone.rxBuf.read 14 = 0x30#8 + (1#3).setWidth 8 ∧
    identityDone.rxBuf.read (14 + 1) = 0x3D#8 := by decide

theorem test_meets_DecodeCommandsCheckStateThenTransaction :
    (6#3 ∈ [1#3, 2#3, 3#3, 4#3, 5#3, 6#3] ∧ (decodeCommands 0#8 0#8 6#3).length = 6) ∧
    start.st ≠ .complete ∧ regsDone.st = .complete ∧ regsDone.txn ∉ [Txn.pwrState] ∧
    warnDone.txn ∉ [Txn.regs, Txn.batt] ∧ 0#3 ∉ [1#3, 2#3, 3#3, 4#3, 5#3, 6#3] ∧
    7#3 ∉ [1#3, 2#3, 3#3, 4#3, 5#3, 6#3] := by decide

/-- The largest value with a class of its own, and the smallest without. -/
theorem test_meets_PowerStateIsReportedWithItsClass :
    2 ^ 0 ≤ (0x0001#16).toNat ∧ start.st ≠ .complete ∧ regsDone.st = .complete ∧
    regsDone.txn ∉ [Txn.pwrState] ∧
    (pstateDone 3#16).st = .complete ∧ (pstateDone 3#16).txn = .pwrState ∧
    3 = be16Nat (pstateDone 3#16).rxBuf 3 ∧ 4 = be16Nat (pstateDone 4#16).rxBuf 3 := by decide

/-- The first and the last entry of each ROM, and the first index past it. -/
theorem test_meets_FieldIsExtractedFromItsSlot :
    2 ^ 8 ≤ (0x0100#16).toNat ∧ start.st ≠ .complete ∧ warnDone.st = .complete ∧
    warnDone.txn ∉ [Txn.regs, Txn.batt] ∧
    (regsDone.st = .complete ∧ regsDone.txn = .regs ∧
      regsDone.cfg.regRom[(0#8).toNat]? = some ⟨1#16, 0#8, .u16 1#2⟩ ∧
      regsDone.cfg.regRom[(4#8).toNat]? = some ⟨5#16, 84#8, .u16 2#2⟩ ∧
      regsDone.cfg.regRom.length ≤ (5#8).toNat) ∧
    (battDone.st = .complete ∧ battDone.txn = .batt ∧
      battDone.cfg.battRom[(1#8).toNat]? = some ⟨0x11#16, 64#8, .u16 0#2⟩ ∧
      battDone.cfg.battRom.length ≤ (2#8).toNat) := by decide

theorem test_meets_WarnRestartRewindsTheIterator :
    2 ^ 0 ≤ (0x0001#16).toNat ∧ start.st ≠ .complete ∧ regsDone.st = .complete ∧
    regsDone.txn ∉ [Txn.warn] ∧
    warnDone.st = .complete ∧ warnDone.txn = .warn := by decide

/-- The last active entry, and the end of the list. -/
theorem test_meets_WarnNextReportsTheNextActiveWarning :
    let s : State := { warnDone with warnPtr := 2#9 }
    let s' : State := { warnDone with warnPtr := 3#9 }
    2 ^ 0 ≤ (0x0001#16).toNat ∧ start.st ≠ .complete ∧ regsDone.st = .complete ∧
    regsDone.txn ∉ [Txn.warn] ∧
    (s.st = .complete ∧ s.txn = .warn ∧ s.warnPtr.toNat ≤ 2 ∧
      s.cfg.warnRom[2]? = some ⟨9#16, 5#16, 50#8, 7#4⟩ ∧
      be16Nat s.rxBuf (3 + (50#8).toNat) / 2 ^ (15 - (7#4).toNat) % 2 = 1) ∧
    (s'.st = .complete ∧ s'.txn = .warn ∧ s'.cfg.warnRom.length ≤ s'.warnPtr.toNat) := by decide

theorem test_meets_WarnScanListsTheActiveWarnings :
    warnDone.st = .complete ∧ warnDone.txn = .warn ∧ warnDone.warnPtr = 0#9 ∧
    warnDone.cfg.warnRom.length < 4 := by decide

/-- A body with a count object, and one with none. -/
theorem test_meets_DeviceCountIsTheLastCountObject :
    2 ^ 0 ≤ (0x0001#16).toNat ∧ start.st ≠ .complete ∧ regsDone.st = .complete ∧
    regsDone.txn ∉ [Txn.devinfo] ∧
    identityDone.st = .complete ∧ identityDone.txn = .devinfo ∧
    objects identityDone.rxBuf identityDone.decl =
      [] ++ ⟨0x87#8, ⟨10, 2⟩⟩ :: [⟨0x01#8, ⟨14, 23⟩⟩] ∧
    ([⟨0x01#8, ⟨14, 23⟩⟩] : List TlvObject).all (fun x => x.id != 0x87#8) = true ∧
    (objects identityDone.rxBuf 0#8).all (fun x => x.id != 0x87#8) = true := by decide

theorem identityDone_control : ControlInv identityDone where
  stageOfWrite := by decide
  bodyLeft := by decide
  objectsLeft := by decide
  valueLeft := by decide
  record := by decide
  checked := by decide

/-- The only record, and the first index past it. -/
theorem test_meets_DeviceRecordFieldIsLocated :
    ControlInv identityDone ∧ identityDone.st = .complete ∧ identityDone.txn = .devinfo ∧
    6#3 ∈ [1#3, 2#3, 3#3, 4#3, 5#3, 6#3] ∧ 7#3 ∉ [1#3, 2#3, 3#3, 4#3, 5#3, 6#3] ∧
    2 ^ 11 ≤ (0x0800#16).toNat ∧ start.st ≠ .complete ∧ regsDone.st = .complete ∧
    regsDone.txn ∉ [Txn.devinfo] ∧
    (objects identityDone.rxBuf identityDone.decl).filter (fun o => o.id != 0x87#8) =
      [⟨0x01#8, ⟨14, 23⟩⟩] ∧
    [(⟨0x01#8, ⟨14, 23⟩⟩ : TlvObject)][(0#8).toNat]? = some ⟨0x01#8, ⟨14, 23⟩⟩ ∧
    [(⟨0x01#8, ⟨14, 23⟩⟩ : TlvObject)].length ≤ (1#8).toNat :=
  ⟨identityDone_control, by decide⟩

theorem test_meets_HostReadPortMap : 0x0D#8 < 0x0E#8 ∧ 0x0D#8 < 0xFF#8 := by decide

/-- The last stored byte, the first past it, and an index past a small capacity. -/
theorem test_meets_RxWindowShowsStoredBytesOnly :
    ((36#17).toNat < identityDone.rxLen.toNat ∧ (36#17).toNat < identityDone.cfg.rxbufCap) ∧
    identityDone.rxLen.toNat ≤ (37#17).toNat ∧ identityDone.cfg.rxbufCap ≤ (65543#17).toNat := by
  decide

/-- A configuration image at the smallest capacity, with the last entry of each table of the example. -/
def exampleImage : ConfigImage :=
  ⟨258, [0x00010010#32, 0x00055420#32], [0x00114000#32], [0x000900053207#48]⟩

theorem exampleImage_ok : ImageOk exampleImage where
  cap := by simp [exampleImage]
  regLength := by simp [exampleImage]
  battLength := by simp [exampleImage]
  warnLength := by simp [exampleImage]
  reg := by simp [exampleImage, FieldWordOk]
  batt := by simp [exampleImage, FieldWordOk]
  warn := by simp [exampleImage, WarnWordOk]

theorem test_meets_IllFormedConfigurationsAreRefused :
    (∃ img, ImageOk img) ∧ (∃ img, ¬ ImageOk img) :=
  ⟨⟨_, exampleImage_ok⟩, ⟨257, [], [], []⟩, fun h => by have := h.cap.1; simp at this⟩

theorem test_meets_RomEntriesReadBackFromTheirWords :
    fieldEntryOfWord 0x0004068F#32 = some ⟨4#16, 6#8, .bit 15#4⟩ ∧
    warnEntryOfWord 0x000900053207#48 = some ⟨9#16, 5#16, 50#8, 7#4⟩ := by decide

theorem test_meets_NoStepWritesTheConfiguration : ∃ s t : State, step s = .next t :=
  ⟨given .reset regsDone, _, rfl⟩

/-- A failure of each kind is reached. -/
theorem test_meets_EveryFailureIsRecordedAndClosed :
    (∃ t, exec (.linkFail 4#3) (active .regs .sent) = .next t ∧ t.st = .failed) ∧
    (∃ t, exec (.txDone 0#4) (active .regs .sent) = .next t ∧ t.st = .failed) ∧
    (∃ t, exec (.rxByte 0#8) (lastHeader .regs [0x01#8, 0x83#8]) = .next t ∧ t.st = .failed) ∧
    (∃ t, exec (.rxByte 0#8) (trailing .regs 0x3A18#16 true) = .next t ∧ t.st = .failed) ∧
    (∃ t, exec (.rxByte 0x3A#8) (trailing .regs 0x3A18#16 true) = .next t ∧ t.st = .failed) :=
  ⟨⟨_, rfl, by decide⟩, ⟨_, rfl, by decide⟩, ⟨_, rfl, by decide⟩, ⟨_, rfl, by decide⟩,
    ⟨_, rfl, by decide⟩⟩

theorem test_meets_FailuresAreLeftByClearStartOrResetOnly :
    (∃ t, (active .regs .failed).st.terminal = true ∧ exec .clear (active .regs .failed) = .next t) ∧
    regsDone.st.terminal = true ∧ 6#3 ≠ 7#3 ∧ (given .reset regsDone).input = [.reset] :=
  ⟨⟨_, rfl, rfl⟩, by decide, by decide, rfl⟩

theorem test_meets_FsmMovesAsTheTransitionTableSays :
    ∃ t, exec (.start 6#3) start = .next t ∧ t.st = .sent :=
  ⟨_, rfl, by decide⟩

/-- A word that emits nothing, one that emits `close` and one that emits a frame. -/
theorem test_meets_EventsComeOnlyFromStartAndTerminalEntry :
    (∃ t, exec .crcInit start = .next t) ∧
    (∃ t, exec (.linkFail 1#3) (active .regs .sent) = .next t) ∧
    (∃ t, exec (.start 0#3) start = .next t) :=
  ⟨⟨_, rfl⟩, ⟨_, rfl⟩, ⟨_, rfl⟩⟩

theorem test_meets_HostQueriesLeaveTheTransactionAlone :
    (∃ t, hostQuery (.crcFeed 1#8) = true ∧
      exec (.crcFeed 1#8) (active .regs .awaitingBody) = .next t) ∧
    (∃ t, hostQuery .decWarnNext = true ∧ exec .decWarnNext warnDone = .next t) :=
  ⟨⟨_, rfl, rfl⟩, ⟨_, rfl, rfl⟩⟩

theorem test_meets_TransportWordsIgnoreTheHostsRegisters :
    transportWord (.txDone 8#4) = true ∧ transportWord (.rxByte 0#8) = true ∧
    transportWord (.linkFail 4#3) = true := by decide

theorem identityDone_memory : MemoryInv identityDone where
  canonical := by decide
  inside := by decide

theorem identityDone_state : StateInv identityDone where
  control := identityDone_control
  length := {
    bound := by decide
    overflow := by decide
    beforeHeader := by decide
    inHeader := by decide
    inReadBody := by decide
    inIdentityBody := fun h => by cases h }

theorem identityDone_crc : CrcInv identityDone where
  canonical := by decide
  stored := by decide
  accumulated := by decide

/-- In the state after FR_ID2, with a RESET or a word to take. -/
theorem test_meets_StepKeepsTheMemoryInvariant :
    ∃ s t : State, MemoryInv s ∧ s.rxBuf ≠ [] ∧ step s = .next t :=
  ⟨given (.word 0xA0000#20) identityDone, _, ⟨identityDone_memory.1, identityDone_memory.2⟩,
    by decide, rfl⟩

theorem test_meets_StepKeepsTheStateInvariant :
    ∃ s t : State, StateInv s ∧ s.st = .complete ∧ step s = .next t :=
  ⟨identityDone, _, identityDone_state, rfl, rfl⟩

theorem test_meets_StepKeepsTheChecksumInvariant :
    ∃ s t : State, CrcInv s ∧ s.rxLen ≠ 0#17 ∧ step s = .next t :=
  ⟨identityDone, _, identityDone_crc, by decide, rfl⟩

theorem test_meets_StepKeepsTheEventInvariant :
    ∃ s t : State, EventInv s ∧ s.events ≠ [] ∧ step s = .next t := by
  have he : (active .regs .sent).events = [.txFrame (requestFrame .regs)] := by decide
  refine ⟨active .regs .sent, _, ⟨by decide, fun bs h => ⟨.regs, ?_⟩, by decide, by decide⟩,
    by decide, rfl⟩
  simpa [he] using h

/-- The state at the first response byte of a transaction. -/
theorem active_atFirstByte (t : Txn) : AtFirstByte (active t .awaitingHeader) :=
  ⟨rfl, rfl, rfl, rfl, rfl, rfl, rfl⟩

theorem test_meets_ReadResponseCompletesWithItsChecksumOnly :
    ∃ (s : State) (body f : List Byte), AtFirstByte s ∧ isRead s.txn = true ∧
      body.length = expLen s.txn ∧ f = [0x01#8, 0x03#8, BitVec.ofNat 8 (expLen s.txn)] ++ body ∧
      [0x00#8, 0x00#8] ≠ [lo8 (crc16 f), hi8 (crc16 f)] :=
  ⟨active .pwrState .awaitingHeader, [0x00#8, 0x03#8], _, active_atFirstByte _, by decide, by decide,
    rfl, by decide⟩

/-- The echo, and a response that differs in its last byte. -/
theorem test_meets_WriteCompletesOnTheExactEchoOnly :
    let s := active .pwrOn .awaitingHeader
    AtFirstByte s ∧ isWrite s.txn = true ∧
      [0x01#8, 0x06#8, 0x2B#8, 0x15#8, 0x00#8, 0x01#8, 0x50#8, 0x2A#8] = s.txBuf.toList ∧
      [0x01#8, 0x06#8, 0x2B#8, 0x15#8, 0x00#8, 0x01#8, 0x50#8, 0x2B#8] ≠ s.txBuf.toList :=
  ⟨active_atFirstByte _, by decide⟩

/-- A response of one good record, one of no object, and one of a count of a wrong length. -/
theorem test_meets_IdentityResponseIsTakenApartIntoItsObjects :
    let s := active .devinfo .awaitingHeader
    AtFirstByte s ∧ s.txn = .devinfo ∧
    ([[(0x01#8, recordBytes)], [], [(0x87#8, [0x05#8])]] : List (List (Byte × List Byte))).all
      (fun objs => objs.length ≤ 255 && objs.all (fun o => o.2.length ≤ 255) &&
        ([0x01#8, 0x2B#8, 0x0E#8, 0x03#8, 0x03#8, 0x00#8, 0x00#8, BitVec.ofNat 8 objs.length]
          ++ identityBody objs).length ≤ s.cfg.rxbufCap) = true :=
  ⟨active_atFirstByte _, by decide⟩

end Sys2Proof.Tests
end

/-! PROOF. The host read port (10_state.md R37 to R41): how a field is read out of a packed word, the fields
of STATUS, ERROR, COUNTERS and the TX words, the unlisted addresses, and the RX window. -/

namespace Sys2Proof.Proofs.ReadPort

open Machine

/-! ### Fields of a packed word

A field is reached by cutting off the parts of the append on its two sides; what is left is the field
itself, read from its bit 0. -/

/-- The last cut. The start stays a difference, as the cuts leave it. -/
theorem extractLsb'_of_start_eq_zero {w start : Nat} (x : BitVec w) (h : start = 0) :
    x.extractLsb' start w = x := by
  rw [h, BitVec.extractLsb'_eq_self]

/-- A widened word reads 0 above its own bits. -/
theorem extractLsb'_setWidth_of_ge {w w' start len : Nat} (x : BitVec w) (h : w ≤ start) :
    (x.setWidth w').extractLsb' start len = 0#len := by
  ext i hi
  simp [BitVec.getLsbD_of_ge x (start + i) (by omega)]

/-! ### STATUS (R38) -/

theorem statusWord_codes (s : State) :
    (statusWord s).extractLsb' 0 3 = fsmCode s.st ∧
    (statusWord s).extractLsb' 8 3 = txnCode s.txn ∧
    (statusWord s).extractLsb' 13 3 = cmdErrCode s.cmdErr := by
  refine ⟨?st, ?txn, ?cmdErr⟩ <;>
    simp (disch := omega) only [statusWord, BitVec.extractLsb'_setWidth_of_le,
      BitVec.extractLsb'_append_eq_of_le, BitVec.extractLsb'_append_eq_of_add_le,
      extractLsb'_of_start_eq_zero]

theorem statusWord_flags (s : State) :
    (statusWord s).getLsbD 3 = s.st.active ∧ (statusWord s).getLsbD 4 = s.st.terminal ∧
    (statusWord s).getLsbD 5 = s.crcOk ∧ (statusWord s).getLsbD 6 = s.stray ∧
    (statusWord s).getLsbD 7 = s.ovf ∧ (statusWord s).getLsbD 11 = s.dvalid ∧
    (statusWord s).getLsbD 12 = s.dend := by
  simp only [statusWord, BitVec.getLsbD_setWidth, BitVec.getLsbD_append]
  simp

theorem statusWord_unused (s : State) : (statusWord s).extractLsb' 16 16 = 0#16 :=
  extractLsb'_setWidth_of_ge _ le_rfl

/-! ### ERROR (R39) -/

theorem errorWord_fields (s : State) :
    (errorWord s).extractLsb' 0 3 = errKindCode s.errKind ∧
    (errorWord s).extractLsb' 3 3 = s.errCause ∧
    (errorWord s).extractLsb' 6 3 = fsmCode s.errState := by
  refine ⟨?kind, ?cause, ?state⟩ <;>
    simp (disch := omega) only [errorWord, BitVec.extractLsb'_setWidth_of_le,
      BitVec.extractLsb'_append_eq_of_le, BitVec.extractLsb'_append_eq_of_add_le,
      extractLsb'_of_start_eq_zero]

theorem errorWord_unused (s : State) : (errorWord s).extractLsb' 9 23 = 0#23 :=
  extractLsb'_setWidth_of_ge _ le_rfl

/-! ### COUNTERS (R40) -/

theorem countersWord_counters (s : State) :
    (countersWord s).extractLsb' 0 3 = s.hdrIdx ∧
    (countersWord s).extractLsb' 4 2 = tlvPhaseCode s.tlvPh ∧
    (countersWord s).extractLsb' 6 2 = 0#2 ∧
    (countersWord s).extractLsb' 8 8 = s.bodyRem ∧
    (countersWord s).extractLsb' 16 8 = s.objRem ∧
    (countersWord s).extractLsb' 24 8 = s.valRem := by
  refine ⟨?hdrIdx, ?tlvPh, ?unused, ?bodyRem, ?objRem, ?valRem⟩ <;>
    simp (disch := omega) only [countersWord, BitVec.extractLsb'_append_eq_of_le,
      BitVec.extractLsb'_append_eq_of_add_le, extractLsb'_of_start_eq_zero]

theorem countersWord_csIdx (s : State) : (countersWord s).getLsbD 3 = s.csIdx := by
  simp only [countersWord, BitVec.getLsbD_append]
  simp

/-! ### The TX words, the other addresses and reset (R37) -/

theorem txBufWord_byte (f : Fin 4 → Byte) (j : Fin 4) :
    (txBufWord (f 0) (f 1) (f 2) (f 3)).extractLsb' (8 * j.val) 8 = f j := by
  fin_cases j <;>
    simp (disch := omega) only [txBufWord, BitVec.extractLsb'_append_eq_of_le,
      BitVec.extractLsb'_append_eq_of_add_le, extractLsb'_of_start_eq_zero] <;> rfl

theorem hostRead_of_unlisted (s : State) {a : BitVec 8} (h : 0x0D < a.toNat) :
    hostRead s a = 0#32 := by
  unfold hostRead
  split
  case h_15 => rfl
  all_goals omega

theorem hostRead_reset :
    ∀ a ∈ [0x00#8, 0x01#8, 0x07#8], hostRead State.reset a = 0#32 := by
  decide

/-- Settles O40: each address shows its word by computation, and the fields of the packed words are the
layout lemmas above. -/
theorem hostReadPortMap : Obligations.HostReadPortMap := by
  intro s
  obtain ⟨st, txn, cmdErr⟩ := statusWord_codes s
  obtain ⟨busy, done, crcOk, stray, ovf, dvalid, dend⟩ := statusWord_flags s
  obtain ⟨errKind, errCause, errState⟩ := errorWord_fields s
  obtain ⟨hdrIdx, tlvPh, unused, bodyRem, objRem, valRem⟩ := countersWord_counters s
  exact ⟨st, busy, done, crcOk, stray, ovf, txn, dvalid, dend, cmdErr, statusWord_unused s,
    errKind, errCause, errState, errorWord_unused s,
    rfl, rfl, rfl, rfl, rfl,
    hdrIdx, countersWord_csIdx s, tlvPh, unused, bodyRem, objRem, valRem,
    rfl, rfl, rfl, rfl,
    txBufWord_byte fun j => s.txBuf[j.val], txBufWord_byte fun j => s.txBuf[j.val + 4],
    fun _ h => hostRead_of_unlisted s h, hostRead_reset⟩

/-! ### The RX window (R41) -/

theorem rxWindow_of_stored {s : State} {i : BitVec 17} (hlen : i.toNat < s.rxLen.toNat)
    (hcap : i.toNat < s.cfg.rxbufCap) : rxWindow s i = s.rxBuf.read i.toNat :=
  if_pos ⟨hlen, hcap⟩

theorem rxWindow_of_not_stored {s : State} {i : BitVec 17}
    (h : s.rxLen.toNat ≤ i.toNat ∨ s.cfg.rxbufCap ≤ i.toNat) : rxWindow s i = 0x00#8 :=
  if_neg fun ⟨hlen, hcap⟩ => h.elim (Nat.not_le.2 hlen) (Nat.not_le.2 hcap)

/-- Settles O41: the two branches of the window's one test. -/
theorem rxWindowShowsStoredBytesOnly : Obligations.RxWindowShowsStoredBytesOnly :=
  fun _ _ => ⟨rxWindow_of_stored, rxWindow_of_not_stored⟩

end Sys2Proof.Proofs.ReadPort

/-! PROOF. The encodings (30_encoding.md): a step on an input word by what the decoder answers, the words
refused for a reserved argument bit (R74) or a reserved opcode (R73), and the request frames (R60). -/

namespace Sys2Proof.Proofs.Encoding

open Machine Statement

/-! ### A step on an input word (R75) -/

theorem step_of_decode_ok {s : State} {w : InputWord} {rest : List Input} {i : Instr}
    (hs : s.input = .word w :: rest) (hd : decode w = .ok i) :
    step s = exec i { s with input := rest } := by
  simp [step, State.dropInput, hs, hd]

theorem step_of_decode_error {s : State} {w : InputWord} {rest : List Input} {e : DecodeError}
    (hs : s.input = .word w :: rest) (hd : decode w = .error e) :
    step s = .next { s with input := rest, cmdErr := .illegal } := by
  simp [step, State.dropInput, State.refuseIllegal, State.refuse, hs, hd]

theorem decode_of_clean {op : BitVec 4} {arg : BitVec 16} (h : arg &&& reservedMask op = 0#16) :
    decode (op ++ arg) = .ok (instrOf op arg) := by
  change decode (wordOf op arg) = _
  simp [decode, h]

theorem decode_of_reservedBits {op : BitVec 4} {arg : BitVec 16}
    (h : arg &&& reservedMask op ≠ 0#16) :
    decode (op ++ arg) = .error (.reservedBits op arg) := by
  change decode (wordOf op arg) = _
  simp [decode, h]

/-! ### Reserved argument bits (R74) -/

theorem reservedMask_of_mem : ∀ row ∈ reservedMasks, reservedMask row.1 = row.2 := by
  intro row hrow
  fin_cases hrow <;> rfl

theorem refusedIllegal_of_reservedBits {op : BitVec 4} {arg : BitVec 16}
    (h : arg &&& reservedMask op ≠ 0#16) : RefusedIllegal op arg :=
  fun _ _ hs => step_of_decode_error hs (decode_of_reservedBits h)

/-- Settles O3: the decoder's mask of an op is the listed one, and a word with a bit under it does not
decode. -/
theorem reservedBitsAreRefusedIllegal : Obligations.ReservedBitsAreRefusedIllegal := by
  intro row hrow arg harg
  rw [← reservedMask_of_mem row hrow] at harg
  exact refusedIllegal_of_reservedBits harg

/-! ### Reserved opcodes (R73) -/

theorem exec_reserved0 (arg : BitVec 16) (s : State) :
    exec (.reserved0 arg) s = .next { s with cmdErr := .illegal } := rfl

theorem exec_reservedF (arg : BitVec 16) (s : State) :
    exec (.reservedF arg) s = .next { s with cmdErr := .illegal } := rfl

/-- A word of an op without reserved bits is refused if its instruction is. -/
theorem refusedIllegal_of_exec {op : BitVec 4} {arg : BitVec 16} (hmask : reservedMask op = 0#16)
    (hexec : ∀ s, exec (instrOf op arg) s = .next { s with cmdErr := .illegal }) :
    RefusedIllegal op arg := by
  intro s rest hs
  have hclean : arg &&& reservedMask op = 0#16 := by rw [hmask, BitVec.and_zero]
  rw [step_of_decode_ok hs (decode_of_clean hclean), hexec]

theorem refusedIllegal_of_reservedOpcode {op : BitVec 4} (hop : op ∈ [0x0#4, 0xF#4])
    (arg : BitVec 16) : RefusedIllegal op arg := by
  obtain rfl | rfl : op = 0x0#4 ∨ op = 0xF#4 := by simpa using hop
  · exact refusedIllegal_of_exec rfl (exec_reserved0 arg)
  · exact refusedIllegal_of_exec rfl (exec_reservedF arg)

/-- Settles O4: every word of a reserved opcode decodes, and its instruction refuses. -/
theorem reservedOpcodesAreRefusedIllegal : Obligations.ReservedOpcodesAreRefusedIllegal :=
  ⟨fun _ hop => refusedIllegal_of_reservedOpcode hop, exec_reserved0, exec_reservedF⟩

/-! ### The request frames (R60) -/

theorem requestRom_of_mem : ∀ r ∈ requestTable, requestRom r.txn = r.body := by
  decide

/-- Each row's bytes are run through the CRC unit, shift by shift. -/
theorem crc16_body_of_mem : ∀ r ∈ requestTable, crc16 r.body = r.crc := by
  simp [requestTable, crc16, crcStep, crcShifts, crcShift, crcInitValue, crcPoly]

/-- The table's frame is its bytes before the checksum and the checksum, low byte first (R59). -/
theorem frame_eq_of_mem : ∀ r ∈ requestTable, r.frame = r.body ++ checksumBytes r.crc := by
  decide

theorem txnOfCode_selector_of_mem : ∀ r ∈ requestTable, txnOfCode r.selector = some r.txn := by
  decide

theorem requestFrame_of_mem {r : RequestRow} (hr : r ∈ requestTable) :
    requestFrame r.txn = r.frame := by
  rw [requestFrame, requestRom_of_mem r hr, crc16_body_of_mem r hr, frame_eq_of_mem r hr]

/-- Settles O14: the request ROM and the checksums are the table's, and the assembled frame is made of
the two. -/
theorem requestFramesAreTheTables : Obligations.RequestFramesAreTheTables :=
  fun r hr => ⟨requestRom_of_mem r hr, crc16_body_of_mem r hr, requestFrame_of_mem hr,
    txnOfCode_selector_of_mem r hr⟩

end Sys2Proof.Proofs.Encoding

/-! PROOF. The checksum unit (41_checksum.md R80 to R85): runs of instructions, the words of an op with one
operand field, the three host commands, and the CRC functions. -/

namespace Sys2Proof.Proofs.Checksum

open Machine Statement Proofs.Encoding

/-! ### Runs of instructions -/

theorem execAll_cons_of_next {i : Instr} {s t : State} (h : exec i s = .next t) (is : List Instr) :
    execAll (i :: is) s = execAll is t := by
  simp only [execAll, h]

theorem execAll_append_of_next {is : List Instr} {s t : State} (h : execAll is s = .next t)
    (js : List Instr) : execAll (is ++ js) s = execAll js t := by
  induction is generalizing s with
  | nil =>
    cases h
    rfl
  | cons i is ih =>
    cases hi : exec i s with
    | next u =>
      rw [execAll_cons_of_next hi] at h
      rw [List.cons_append, execAll_cons_of_next hi, ih h]
    | fault r => simp [execAll, hi] at h
    | refused r => simp [execAll, hi] at h

/-! ### Words with one operand field (R71, R74) -/

/-- An operand is widened with zero bits between the op and itself. -/
theorem append_setWidth_eq {k z n : Nat} (op : BitVec k) (x : BitVec n) :
    op ++ x.setWidth (z + n) = (op ++ 0#z ++ x).cast (by omega) := by
  have hx : x.setWidth (z + n) = 0#z ++ x := by
    apply BitVec.eq_of_toNat_eq
    rw [BitVec.toNat_setWidth_of_le (Nat.le_add_left n z)]
    simp
  rw [hx, BitVec.append_assoc, BitVec.cast_cast, BitVec.cast_eq]

/-- A word with a bit above its `n` low ones meets the mask of all the bits above these. -/
theorem and_shiftLeft_allOnes_ne_zero {w n : Nat} {x : BitVec w} (h : 2 ^ n ≤ x.toNat) :
    x &&& (BitVec.allOnes w <<< n) ≠ 0#w := by
  obtain ⟨i, hi, hbit⟩ := Nat.exists_ge_and_testBit_of_ge_two_pow h
  have hx : x.getLsbD i = true := hbit
  have hmasked : (x &&& (BitVec.allOnes w <<< n)).getLsbD i = true := by
    simp [hx, hi, BitVec.lt_of_getLsbD hx]
  intro hzero
  simp [hzero] at hmasked

theorem refusedAbove_of_reservedMask {op : BitVec 4} {n : Nat}
    (hmask : reservedMask op = BitVec.allOnes 16 <<< n) : RefusedAbove op n := by
  intro arg harg
  apply refusedIllegal_of_reservedBits
  rw [hmask]
  exact and_shiftLeft_allOnes_ne_zero harg

/-! ### CRC_INIT (R83) -/

theorem exec_crcInit (s : State) :
    exec .crcInit s = .next { s with genCrc := crcInitValue, cmdErr := .ok } := rfl

/-- Settles O10: the arm of CRC_INIT, and every argument bit of its op is reserved. -/
theorem crcInitSetsTheAccumulator : Obligations.CrcInitSetsTheAccumulator :=
  ⟨rfl, exec_crcInit, refusedAbove_of_reservedMask rfl⟩

/-! ### CRC_FEED (R84) -/

theorem exec_crcFeed (b : BitVec 8) (s : State) :
    exec (.crcFeed b) s = .next { s with genCrc := crcStep s.genCrc b, cmdErr := .ok } := rfl

theorem encode_crcFeed (b : BitVec 8) : encode (.crcFeed b) = .word (0x2#4 ++ 0#8 ++ b) :=
  congrArg Encoding.word (append_setWidth_eq (z := 8) 0x2#4 b)

/-- Feeding without a CRC_INIT continues from the accumulator as it stands. -/
theorem execAll_map_crcFeed (bs : List Byte) (s : State) (hs : s.cmdErr = .ok) :
    execAll (bs.map Instr.crcFeed) s = .next { s with genCrc := bs.foldl crcStep s.genCrc } := by
  induction bs generalizing s with
  | nil => rfl
  | cons b bs ih =>
    rw [List.map_cons, execAll_cons_of_next (exec_crcFeed b s), ih _ rfl, ← hs]
    rfl

theorem execAll_crcInit_map_crcFeed (bs : List Byte) (s : State) :
    execAll (.crcInit :: bs.map Instr.crcFeed) s =
      .next { s with genCrc := crc16 bs, cmdErr := .ok } := by
  rw [execAll_cons_of_next (exec_crcInit s), execAll_map_crcFeed _ _ rfl]
  rfl

/-- Settles O11: the arm of CRC_FEED, the reserved high half of its argument, and the left fold that the
fed bytes make of it. -/
theorem crcFeedAddsOneByte : Obligations.CrcFeedAddsOneByte :=
  ⟨encode_crcFeed, exec_crcFeed, refusedAbove_of_reservedMask rfl, execAll_crcInit_map_crcFeed⟩

/-! ### CRC_VERIFY (R85) -/

theorem exec_crcVerify (e : BitVec 16) (s : State) :
    exec (.crcVerify e) s = .next { s with crcOk := s.genCrc == e, cmdErr := .ok } := rfl

theorem exec_crcVerify_of_eq {e : BitVec 16} {s : State} (h : s.genCrc = e) :
    exec (.crcVerify e) s = .next { s with crcOk := true, cmdErr := .ok } := by
  rw [exec_crcVerify, beq_iff_eq.2 h]

theorem exec_crcVerify_of_ne {e : BitVec 16} {s : State} (h : s.genCrc ≠ e) :
    exec (.crcVerify e) s = .next { s with crcOk := false, cmdErr := .ok } := by
  rw [exec_crcVerify, beq_eq_false_iff_ne.2 h]

theorem execAll_crcInit_map_crcFeed_crcVerify (bs : List Byte) (e : BitVec 16) (s : State) :
    execAll (.crcInit :: bs.map Instr.crcFeed ++ [.crcVerify e]) s =
      .next { s with genCrc := crc16 bs, crcOk := crcVerify bs e, cmdErr := .ok } := by
  rw [execAll_append_of_next (execAll_crcInit_map_crcFeed bs s),
    execAll_cons_of_next (exec_crcVerify e _), execAll_nil]
  rfl

/-- Settles O12: the two results of the one comparison, and the comparison after the bytes are fed. -/
theorem crcVerifyReportsEquality : Obligations.CrcVerifyReportsEquality :=
  ⟨fun _ => rfl, fun _ _ => exec_crcVerify_of_eq, fun _ _ => exec_crcVerify_of_ne,
    execAll_crcInit_map_crcFeed_crcVerify⟩

/-! ### The CRC functions (R80 to R82) -/

theorem crcShifts_eq_iterate (n : Nat) (c : BitVec 16) : crcShifts n c = crcShift^[n] c := by
  induction n generalizing c with
  | zero => rfl
  | succ n ih => rw [crcShifts, ih, Function.iterate_succ_apply]

theorem crcVerify_eq_true_iff (bs : List Byte) (e : BitVec 16) :
    crcVerify bs e = true ↔ crc16 bs = e :=
  beq_iff_eq

/-- The example values of R80. -/
theorem crcStep_examples :
    crcStep 0xFFFF#16 0x00#8 = 0x40BF#16 ∧ crcStep 0xFFFF#16 0x01#8 = 0x807E#16 := by
  decide

/-- The check value of R81, of the ASCII digits 1 to 9. -/
theorem crc16_checkValue :
    crc16 [0x31#8, 0x32#8, 0x33#8, 0x34#8, 0x35#8, 0x36#8, 0x37#8, 0x38#8, 0x39#8] = 0x4B37#16 := by
  simp [crc16, crcStep, crcShifts, crcShift, crcInitValue, crcPoly]

/-- Settles O9: the eight shifts are an iterate, the checksum is a left fold, and the spec's examples are
run through both. -/
theorem crc16IsTheModbusChecksum : Obligations.Crc16IsTheModbusChecksum := by
  obtain ⟨step00, step01⟩ := crcStep_examples
  exact ⟨fun c b => crcShifts_eq_iterate 8 (c ^^^ b.setWidth 16), step00, step01, crc16_nil,
    crc16_snoc, crc16_checkValue, crcVerify_eq_true_iff⟩

end Sys2Proof.Proofs.Checksum

/-! PROOF. The frame assembler (42_assembler.md): the request frame in the TX buffer, and START refused or
answered with the request of its transaction (R90). -/

namespace Sys2Proof.Proofs.Assembler

open Machine Statement Proofs.Encoding Proofs.Checksum

/-! ### The request frame in the TX buffer (R91 to R93) -/

/-- Bytes that fit the TX buffer lie at its front, and the rest of it is kept. -/
theorem overwriteTx_toList (buf : Vector Byte 8) {bs : List Byte} (h : bs.length ≤ 8) :
    (overwriteTx buf bs).toList = bs ++ buf.toList.drop bs.length := by
  apply List.ext_getElem
  · rw [List.length_append, List.length_drop, Vector.length_toList, Vector.length_toList,
      Nat.add_sub_cancel' h]
  · intro i hi _
    by_cases hib : i < bs.length
    · simp [overwriteTx, hib]
    · have hle : bs.length ≤ i := Nat.le_of_not_lt hib
      simp [overwriteTx, List.getElem_append_right hle, hle]

theorem requestFrame_length (t : Txn) : (requestFrame t).length = (requestRom t).length + 2 := by
  rw [requestFrame, List.length_append]
  rfl

theorem requestFrame_length_le (t : Txn) : (requestFrame t).length ≤ 8 := by
  rw [requestFrame_length]
  cases t <;> decide

/-- What START emits is the whole frame: `tx_len` cuts the TX buffer right behind it. -/
theorem assemble_txFrame (s : State) (t : Txn) : (s.assemble t).txFrame = requestFrame t := by
  have hle := requestFrame_length_le t
  have hlen : (s.assemble t).txLen.toNat = (requestFrame t).length := by
    rw [State.assemble_txLen, ← requestFrame_length, BitVec.toNat_ofNat]
    omega
  rw [State.txFrame, hlen, State.assemble_txBuf, overwriteTx_toList _ hle, List.take_left]

/-! ### Refused in an active state, started in the others (R90) -/

theorem startTransaction_of_active {s : State} (t : Txn) (h : s.st.active = true) :
    s.startTransaction t = s.refuse .busy := by
  simpa [h] using startTransaction_cases s t

theorem startTransaction_of_not_active {s : State} (t : Txn) (h : s.st.active = false) :
    s.startTransaction t = (s.assemble t).emitFrame := by
  simpa [h] using startTransaction_cases s t

theorem active_of_mem {f : Fsm}
    (h : f ∈ [Fsm.sent, Fsm.awaitingHeader, Fsm.awaitingBody, Fsm.awaitingChecksum]) :
    f.active = true := by
  fin_cases h <;> rfl

theorem not_active_of_mem {f : Fsm} (h : f ∈ [Fsm.idle, Fsm.complete, Fsm.failed]) :
    f.active = false := by
  fin_cases h <;> rfl

/-- The assembled and emitted request of a row of R60, in the row's own constants. -/
theorem started_of_mem {r : RequestRow} (hr : r ∈ requestTable) (s : State) :
    Started r s (s.assemble r.txn).emitFrame := by
  have hframe : requestFrame r.txn = r.frame := requestFrame_of_mem hr
  have hcrc : crc16 (requestRom r.txn) = r.crc := by
    rw [requestRom_of_mem r hr, crc16_body_of_mem r hr]
  constructor
  · rw [State.emitFrame_txBuf, State.assemble_txBuf,
      overwriteTx_toList _ (requestFrame_length_le r.txn), hframe]
  · rw [State.emitFrame, assemble_txFrame, State.assemble, ← requestFrame_length, hcrc, hframe]
    rfl

/-! ### START (R90) -/

theorem encode_start (t : BitVec 3) : encode (.start t) = .word (0x4#4 ++ 0#13 ++ t) :=
  congrArg Encoding.word (append_setWidth_eq (z := 13) 0x4#4 t)

theorem exec_start_reserved (s : State) :
    exec (.start 7#3) s = .next { s with cmdErr := .illegal } := rfl

/-- Past the operand check a START is that of the transaction its selector names. -/
theorem exec_start_of_txnOfCode {c : BitVec 3} {t : Txn} (h : txnOfCode c = some t) (s : State) :
    exec (.start c) s = .next (s.startTransaction t) := by
  simp only [exec, execStart, h]

/-- Every selector but the reserved one names a transaction (R58). -/
theorem exists_txnOfCode_eq_some : ∀ c : BitVec 3, c ≠ 7#3 → ∃ t, txnOfCode c = some t := by
  intro c hc
  rw [← Option.isSome_iff_exists]
  revert c
  decide

theorem exec_start_of_active {c : BitVec 3} (hc : c ≠ 7#3) {s : State} (h : s.st.active = true) :
    exec (.start c) s = .next { s with cmdErr := .busy } := by
  obtain ⟨t, ht⟩ := exists_txnOfCode_eq_some c hc
  rw [exec_start_of_txnOfCode ht, startTransaction_of_active t h]
  rfl

theorem exec_start_of_mem {r : RequestRow} (hr : r ∈ requestTable) {s : State}
    (h : s.st.active = false) :
    exec (.start r.selector) s = .next (s.assemble r.txn).emitFrame := by
  rw [exec_start_of_txnOfCode (txnOfCode_selector_of_mem r hr), startTransaction_of_not_active _ h]

/-- Settles O15: the operand check, the BUSY refusal, and the row's request as the assembler leaves it. -/
theorem startAssemblesAndEmitsTheRequest : Obligations.StartAssemblesAndEmitsTheRequest :=
  ⟨encode_start, refusedAbove_of_reservedMask rfl, exec_start_reserved,
    fun _ _ hc hst => exec_start_of_active hc (active_of_mem hst),
    fun _ hr s hst => ⟨_, exec_start_of_mem hr (not_active_of_mem hst), started_of_mem hr s⟩⟩

end Sys2Proof.Proofs.Assembler

/-! PROOF. The frame parser (43_parser.md): CLEAR, the transport's TX_DONE and LINK_FAIL, the unexpected
events, what a taken byte leaves in each stage, and what can move an active transaction. -/

namespace Sys2Proof.Proofs.Parser

open Machine Statement Proofs.Encoding Proofs.Checksum Proofs.Assembler

/-! ### CLEAR (R100) -/

theorem exec_clear_of_active {s : State} (h : s.st.active = true) :
    exec .clear s = .next { s with cmdErr := .busy } :=
  if_pos h

theorem exec_clear_of_not_active {s : State} (h : s.st.active = false) :
    exec .clear s = .next { s.clearTransaction with st := .idle, cmdErr := .ok } :=
  if_neg (by simp [h])

/-- Settles O17: every argument bit is reserved, and the activity of `st` chooses between the refusal and
the cleared registers. -/
theorem clearReturnsToIdle : Obligations.ClearReturnsToIdle :=
  ⟨rfl, refusedAbove_of_reservedMask rfl,
    fun _ hst => exec_clear_of_active (active_of_mem hst),
    fun _ hst => exec_clear_of_not_active (not_active_of_mem hst)⟩

/-! ### TX_DONE (R102) -/

theorem encode_txDone (n : BitVec 4) : encode (.txDone n) = .word (0xC#4 ++ 0#12 ++ n) :=
  congrArg Encoding.word (append_setWidth_eq (z := 12) 0xC#4 n)

theorem exec_txDone_of_not_sent (n : BitVec 4) {s : State} (h : s.st ≠ .sent) :
    exec (.txDone n) s = .next { s with stray := true, cmdErr := .unexpected } :=
  if_pos h

theorem exec_txDone_of_short {n : BitVec 4} {s : State} (h : s.st = .sent)
    (hn : n.toNat < s.txLen.toNat) :
    exec (.txDone n) s = .next (s.fail .transport causeShortWrite) := by
  simp [exec, execTxDone, h, hn]

theorem exec_txDone_of_whole {n : BitVec 4} {s : State} (h : s.st = .sent)
    (hn : s.txLen.toNat ≤ n.toNat) :
    exec (.txDone n) s = .next { s with st := .awaitingHeader, cmdErr := .ok } := by
  simp [exec, execTxDone, h, hn]

/-- The failure entry records the state it was found in (60_exceptions.md R148). -/
theorem fail_eq_failed {s : State} {f : Fsm} (h : s.st = f) (kind : ErrKind) (cause : BitVec 3) :
    s.fail kind cause = failed s f kind cause := by
  rw [← h]
  rfl

/-- Settles O19: the two tests of TX_DONE, of `st` and of the count against `tx_len`. -/
theorem txDoneAcceptsOrFailsShortWrite : Obligations.TxDoneAcceptsOrFailsShortWrite := by
  refine ⟨encode_txDone, refusedAbove_of_reservedMask rfl, fun n _ => exec_txDone_of_not_sent n, ?short,
    fun _ _ => exec_txDone_of_whole⟩
  case short =>
    intro n s hst hn
    rw [exec_txDone_of_short hst hn, fail_eq_failed hst]
    rfl

/-! ### LINK_FAIL (R112) -/

theorem encode_linkFail (c : BitVec 3) : encode (.linkFail c) = .word (0xE#4 ++ 0#13 ++ c) :=
  congrArg Encoding.word (append_setWidth_eq (z := 13) 0xE#4 c)

theorem isLinkCause_iff {c : BitVec 3} : isLinkCause c = true ↔ c ∈ [1#3, 3#3, 4#3] := by
  simp [isLinkCause, or_assoc]

theorem exec_linkFail_of_no_cause {c : BitVec 3} (hc : c ∉ [1#3, 3#3, 4#3]) (s : State) :
    exec (.linkFail c) s = .next { s with cmdErr := .illegal } :=
  if_neg (isLinkCause_iff.not.2 hc)

theorem exec_linkFail_of_active {c : BitVec 3} (hc : c ∈ [1#3, 3#3, 4#3]) {s : State}
    (h : s.st.active = true) :
    exec (.linkFail c) s = .next (s.fail .transport c) := by
  simp only [exec, execLinkFail, isLinkCause_iff.2 hc, h, if_true]

theorem exec_linkFail_of_not_active {c : BitVec 3} (hc : c ∈ [1#3, 3#3, 4#3]) {s : State}
    (h : s.st.active = false) :
    exec (.linkFail c) s = .next { s with stray := true, cmdErr := .unexpected } := by
  simp [exec, execLinkFail, isLinkCause_iff.2 hc, h, State.noteUnexpected]

/-- Settles O21: the check of the cause comes first, then the activity of `st` decides. -/
theorem linkFailFailsAnActiveTransaction : Obligations.LinkFailFailsAnActiveTransaction :=
  ⟨encode_linkFail, refusedAbove_of_reservedMask rfl, fun _ s hc => exec_linkFail_of_no_cause hc s,
    fun _ _ hc => exec_linkFail_of_active hc, fun _ _ hc => exec_linkFail_of_not_active hc⟩

/-! ### RX_BYTE by stage (R103), and the unexpected events (R114) -/

theorem exec_rxByte_of_awaitingHeader (b : Byte) {s : State} (h : s.st = .awaitingHeader) :
    exec (.rxByte b) s = .next (s.rxHeader b) := by
  simp only [exec, execRxByte, h]

theorem exec_rxByte_of_awaitingBody (b : Byte) {s : State} (h : s.st = .awaitingBody) :
    exec (.rxByte b) s = .next (s.rxBody b) := by
  simp only [exec, execRxByte, h]

theorem exec_rxByte_of_awaitingChecksum (b : Byte) {s : State} (h : s.st = .awaitingChecksum) :
    exec (.rxByte b) s = .next (s.rxTrailer b) := by
  simp only [exec, execRxByte, h]

theorem exec_rxByte_of_no_stage (b : Byte) {s : State}
    (h : s.st ∈ [Fsm.idle, Fsm.sent, Fsm.complete, Fsm.failed]) :
    exec (.rxByte b) s = .next { s with stray := true, cmdErr := .unexpected } := by
  obtain ⟨hst, _⟩ | ⟨hst, _⟩ | ⟨hst, _⟩ | ⟨-, hexec⟩ := execRxByte_cases b s
  case inr.inr.inr => exact hexec
  all_goals simp [hst] at h

/-- Settles O20: the unexpected case of each of the three transport words. -/
theorem unexpectedEventsOnlySetStray : Obligations.UnexpectedEventsOnlySetStray :=
  ⟨fun n _ => exec_txDone_of_not_sent n, fun b _ => exec_rxByte_of_no_stage b,
    fun _ _ hc hst => exec_linkFail_of_not_active hc (not_active_of_mem hst)⟩

/-! ### The trailer (R110, R111) -/

theorem halfOf_eq_iff {hi lo : Byte} {v : BitVec 16} :
    halfOf hi lo = v ↔ v.toNat = lo.toNat + 256 * hi.toNat := by
  rw [← BitVec.toNat_inj, halfOf, append_byte_toNat]
  omega

theorem rxTrailer_of_first {s : State} (h : s.csIdx = false) (b : Byte) :
    s.rxTrailer b = { s with rxCs := halfOf (hi8 s.rxCs) b, csIdx := true, cmdErr := .ok } := by
  simpa [h] using rxTrailer_cases s b

theorem rxTrailer_of_ne {s : State} {b : Byte} (h : s.csIdx = true)
    (hne : halfOf b (lo8 s.rxCs) ≠ s.chkCrc) :
    s.rxTrailer b =
      ({ s with rxCs := halfOf b (lo8 s.rxCs) } : State).fail .checksum causeNone := by
  simpa [h, hne] using rxTrailer_cases s b

theorem rxTrailer_of_eq {s : State} {b : Byte} (h : s.csIdx = true)
    (heq : halfOf b (lo8 s.rxCs) = s.chkCrc) :
    s.rxTrailer b = ({ s with rxCs := s.chkCrc } : State).runDecodeCheck := by
  simpa [h, heq] using rxTrailer_cases s b

/-- Settles O27: the first byte is latched, and the second makes the trailer whole, which is `chk_crc`
or not. -/
theorem trailerIsLatchedAndCompared : Obligations.TrailerIsLatchedAndCompared := by
  refine ⟨?first, ?differs, ?equal⟩
  case first =>
    intro b s hst hidx
    rw [exec_rxByte_of_awaitingChecksum b hst, rxTrailer_of_first hidx]
    rfl
  case differs =>
    intro b s hst hidx hne
    rw [exec_rxByte_of_awaitingChecksum b hst, rxTrailer_of_ne hidx (halfOf_eq_iff.not.2 hne)]
    exact congrArg Host.Outcome.next
      (fail_eq_failed (s := { s with rxCs := halfOf b (lo8 s.rxCs) }) hst _ _)
  case equal =>
    intro b s hst hidx heq
    rw [exec_rxByte_of_awaitingChecksum b hst, rxTrailer_of_eq hidx (halfOf_eq_iff.2 heq)]

/-! ### Taking a byte (R104)

`withAccepted s t = s.acceptByte b` says of a next state `t` that its four registers of `accept` are as
`accept` leaves them. What comes after `accept` in a stage does not touch these. -/

theorem acceptByte_of_room {s : State} (b : Byte) (h : s.rxLen.toNat < s.cfg.rxbufCap) :
    (s.acceptByte b).ovf = s.ovf ∧ (s.acceptByte b).rxBuf = s.rxBuf.write s.rxLen.toNat b := by
  simp [rxFull, Nat.not_le.2 h]

theorem acceptByte_of_full {s : State} (b : Byte) (h : s.cfg.rxbufCap ≤ s.rxLen.toNat) :
    (s.acceptByte b).ovf = true ∧ (s.acceptByte b).rxBuf = s.rxBuf := by
  simp [rxFull, h]

theorem accepted_acceptByte {s : State} (hwf : s.rxBuf.wf = true) (b : Byte) :
    Accepted s (s.acceptByte b) b where
  length := rfl
  crc := rfl
  stored hroom := by
    obtain ⟨hovf, hbuf⟩ := acceptByte_of_room b hroom
    rw [hbuf]
    exact ⟨hovf, Memory.read_write_self hwf, fun a ha => Memory.read_write_other s.rxBuf b ha⟩
  overflowed := acceptByte_of_full b

/-- Only the four registers of `accept` count in `Accepted`. -/
theorem accepted_of_withAccepted_eq {s t : State} {b : Byte} (hwf : s.rxBuf.wf = true)
    (h : withAccepted s t = s.acceptByte b) : Accepted s t b := by
  obtain ⟨length, crc, stored, overflowed⟩ := accepted_acceptByte hwf b
  rw [← h] at length crc stored overflowed
  exact ⟨length, crc, stored, overflowed⟩

theorem withAccepted_headerDone (s u : State) (h : List Byte) (b : Byte) :
    withAccepted s (u.headerDone h b) = withAccepted s u := by
  obtain ⟨-, hdone⟩ | ⟨-, -, hdone⟩ | ⟨-, -, hdone⟩ | ⟨-, -, hdone⟩ := headerDone_cases u h b <;>
    rw [hdone] <;> rfl

theorem withAccepted_tlvWalk (s u : State) (b : Byte) :
    withAccepted s (u.tlvWalk b) = withAccepted s u := by
  obtain ⟨-, hwalk⟩ | ⟨-, -, hwalk⟩ | ⟨-, -, hwalk⟩ | ⟨-, -, hwalk⟩ | ⟨-, -, hwalk⟩ :=
    tlvWalk_cases u b <;>
    rw [hwalk] <;> rfl

/-! ### The three shapes of a response (R58) -/

theorem isRead_eq_false_and_ne_devinfo_of_isWrite {t : Txn} (h : isWrite t = true) :
    isRead t = false ∧ t ≠ .devinfo := by
  cases t <;> simp_all [isWrite, isRead]

theorem isWrite_eq_false_and_ne_devinfo_of_isRead {t : Txn} (h : isRead t = true) :
    isWrite t = false ∧ t ≠ .devinfo := by
  cases t <;> simp_all [isWrite, isRead]

/-! ### The last header byte (R106) -/

theorem headerOk_iff {t : Txn} {txBuf : Vector Byte 8} {h : List Byte} :
    headerOk t txBuf h = true ↔ HeaderMatches t txBuf h := by
  cases t <;> simp [headerOk, HeaderMatches, identityPrefix, readPrefix]

theorem headerDone_of_not_matches {s : State} {h : List Byte} (b : Byte)
    (hno : ¬ HeaderMatches s.txn s.txBuf h) :
    s.headerDone h b = s.fail .protocolMismatch causeNone :=
  if_neg (headerOk_iff.not.2 hno)

theorem headerDone_of_isWrite {s : State} {h : List Byte} (b : Byte)
    (hm : HeaderMatches s.txn s.txBuf h) (ht : isWrite s.txn = true) :
    s.headerDone h b = s.enterComplete := by
  simpa [headerOk_iff.2 hm, ht, isRead_eq_false_and_ne_devinfo_of_isWrite ht] using
    headerDone_cases s h b

theorem headerDone_of_isRead {s : State} {h : List Byte} (b : Byte)
    (hm : HeaderMatches s.txn s.txBuf h) (ht : isRead s.txn = true) :
    s.headerDone h b =
      { s with decl := b, bodyRem := b, st := stateAfterCount b, cmdErr := .ok } := by
  simpa [headerOk_iff.2 hm, ht, isWrite_eq_false_and_ne_devinfo_of_isRead ht] using
    headerDone_cases s h b

theorem headerDone_of_devinfo {s : State} {h : List Byte} (b : Byte)
    (hm : HeaderMatches s.txn s.txBuf h) (ht : s.txn = .devinfo) :
    s.headerDone h b =
      { s with decl := b, objRem := b, tlvPh := .id, st := stateAfterCount b, cmdErr := .ok } := by
  have hok : headerOk .devinfo s.txBuf h = true := headerOk_iff.2 (ht ▸ hm)
  simpa [ht, isWrite, isRead, hok] using headerDone_cases s h b

/-- The state once a header byte has been taken and counted, before the header is judged. -/
def headerByteTaken (s : State) (b : Byte) : State :=
  { s.acceptByte b with hdrIdx := s.hdrIdx + 1#3 }

theorem rxHeader_of_last {s : State} (h : hdrLen s.txn ≤ s.hdrIdx.toNat + 1) (b : Byte) :
    s.rxHeader b = (headerByteTaken s b).headerDone (receivedHeader s b) b := by
  obtain ⟨hlt, -⟩ | ⟨-, hdone⟩ := rxHeader_cases s b
  · omega
  · rw [hdone, headerByteTaken, BitVec.ofNat_add, BitVec.ofNat_toNat, BitVec.setWidth_eq]

/-- Settles O24: past `accept` the header is judged by `headerDone`, whose answer is one equation for a
header that does not match and one for each shape of response. -/
theorem lastHeaderByteDecides : Obligations.LastHeaderByteDecides := by
  intro b s hst hwf hlast
  have hexec : exec (.rxByte b) s =
      .next ((headerByteTaken s b).headerDone (receivedHeader s b) b) := by
    rw [exec_rxByte_of_awaitingHeader b hst, rxHeader_of_last hlast]
  have htaken : withAccepted s ((headerByteTaken s b).headerDone (receivedHeader s b) b) =
      s.acceptByte b :=
    withAccepted_headerDone s (headerByteTaken s b) _ b
  refine ⟨_, hexec, accepted_of_withAccepted_eq hwf htaken, ?_⟩
  rw [htaken]
  refine ⟨fun hno => ?mismatch, fun hm => ⟨fun hw => ?write, fun hr => ?read, fun hd => ?identity⟩⟩
  case mismatch =>
    exact (headerDone_of_not_matches (s := headerByteTaken s b) b hno).trans
      (fail_eq_failed (s := headerByteTaken s b) hst _ _)
  case write => exact headerDone_of_isWrite (s := headerByteTaken s b) b hm hw
  case read => exact headerDone_of_isRead (s := headerByteTaken s b) b hm hr
  case identity => exact headerDone_of_devinfo (s := headerByteTaken s b) b hm hd

/-! ### A body byte of a register read (R108) -/

/-- `sub_eq_zero` in the literals that the counters are compared with. -/
theorem sub_one_eq_zero_iff {w : Nat} {x : BitVec w} : x - 1#w = 0#w ↔ x = 1#w :=
  sub_eq_zero

theorem rxBody_of_isRead {s : State} (h : isRead s.txn = true) (b : Byte) :
    s.rxBody b = s.rxReadBody b := by
  simpa [h, isWrite_eq_false_and_ne_devinfo_of_isRead h] using rxBody_cases s b

theorem rxReadBody_eq {s : State} (h : s.st = .awaitingBody) (b : Byte) :
    s.rxReadBody b = { s.acceptByte b with
      bodyRem := s.bodyRem - 1#8, cmdErr := .ok
      st := if s.bodyRem = 1#8 then .awaitingChecksum else .awaitingBody } := by
  simp only [State.rxReadBody, State.acceptByte_bodyRem, State.acceptByte_st, h, sub_one_eq_zero_iff]

/-- Settles O25: the stage is `accept` and one count, whose last value ends the body. -/
theorem readBodyByteCountsDown : Obligations.ReadBodyByteCountsDown := by
  intro b s hst hread hwf _
  have hexec : exec (.rxByte b) s = .next (s.rxReadBody b) := by
    rw [exec_rxByte_of_awaitingBody b hst, rxBody_of_isRead hread]
  have htaken : withAccepted s (s.rxReadBody b) = s.acceptByte b := rfl
  refine ⟨_, hexec, accepted_of_withAccepted_eq hwf htaken, ?_⟩
  rw [htaken]
  exact rxReadBody_eq hst b

/-! ### A body byte of the identity response (R109) -/

theorem rxBody_of_devinfo {s : State} (h : s.txn = .devinfo) (b : Byte) :
    s.rxBody b = s.rxIdentityBody b := by
  simpa [h, isWrite, isRead] using rxBody_cases s b

theorem objectDone_eq {s : State} (h : s.st = .awaitingBody) :
    s.objectDone = { s with
      tlvPh := .id, objRem := s.objRem - 1#8
      st := if s.objRem = 1#8 then .awaitingChecksum else .awaitingBody } := by
  simp only [State.objectDone, h, sub_one_eq_zero_iff]

theorem tlvWalk_of_id {s : State} (h : s.tlvPh = .id) (b : Byte) :
    s.tlvWalk b = { s with tlvPh := .len } := by
  simpa [h] using tlvWalk_cases s b

theorem tlvWalk_of_len {s : State} {b : Byte} (h : s.tlvPh = .len) (hb : b ≠ 0#8) :
    s.tlvWalk b = { s with valRem := b, tlvPh := .val } := by
  simpa [h, hb] using tlvWalk_cases s b

theorem tlvWalk_of_len_zero {s : State} {b : Byte} (h : s.tlvPh = .len) (hb : b = 0#8) :
    s.tlvWalk b = s.objectDone := by
  simpa [h, hb] using tlvWalk_cases s b

theorem tlvWalk_of_val {s : State} (h : s.tlvPh = .val) (hv : s.valRem ≠ 1#8) (b : Byte) :
    s.tlvWalk b = { s with valRem := s.valRem - 1#8 } := by
  simpa [h, sub_one_eq_zero_iff, hv] using tlvWalk_cases s b

theorem tlvWalk_of_val_last {s : State} (h : s.tlvPh = .val) (hv : s.valRem = 1#8) (b : Byte) :
    s.tlvWalk b = ({ s with valRem := 0#8 } : State).objectDone := by
  simpa [h, hv] using tlvWalk_cases s b

/-- Settles O26: `accept`, then the walk's answer in each phase. -/
theorem identityBodyByteWalksTheObjects : Obligations.IdentityBodyByteWalksTheObjects := by
  intro b s hst htxn hwf _ _
  have hexec : exec (.rxByte b) s = .next (s.rxIdentityBody b) := by
    rw [exec_rxByte_of_awaitingBody b hst, rxBody_of_devinfo htxn]
  have htaken : withAccepted s (s.rxIdentityBody b) = s.acceptByte b :=
    withAccepted_tlvWalk s (s.acceptByte b) b
  refine ⟨_, hexec, accepted_of_withAccepted_eq hwf htaken, ?_⟩
  rw [htaken, State.rxIdentityBody]
  refine ⟨fun hp => ?id, fun hp hb => ?len, fun hp hb => ?emptyObject, fun hp hv => ?val,
    fun hp hv => ?lastValueByte⟩
  case id => rw [tlvWalk_of_id (s := s.acceptByte b) hp]
  case len => rw [tlvWalk_of_len (s := s.acceptByte b) hp hb]
  case emptyObject =>
    rw [tlvWalk_of_len_zero (s := s.acceptByte b) hp hb, objectDone_eq (s := s.acceptByte b) hst]
    rfl
  case val =>
    rw [tlvWalk_of_val (s := s.acceptByte b) hp hv]
    rfl
  case lastValueByte =>
    rw [tlvWalk_of_val_last (s := s.acceptByte b) hp hv,
      objectDone_eq (s := { s.acceptByte b with valRem := 0#8 }) hst]
    rfl

/-! ### What can move an active transaction (R101) -/

theorem decodeCommand_of_active {s : State} (h : s.st.active = true) (allowed : List Txn)
    (body : State → Answer) : s.decodeCommand allowed body = .next (s.refuse .notComplete) := by
  have hst : s.st ≠ .complete := fun hc => by simp [hc, Fsm.active] at h
  simpa [hst] using decodeCommand_cases s allowed body

/-- In an active state a word that is not the transport's is one of the CRC unit, which has no part in
`st`, or is refused. -/
theorem exec_host_of_active {i : Instr} {s : State} (h : s.st.active = true)
    (hi : transportWord i = false) : ∃ t, exec i s = .next t ∧ t.st = s.st := by
  cases i with
  | reserved0 arg => exact ⟨_, exec_reserved0 arg s, rfl⟩
  | reservedF arg => exact ⟨_, exec_reservedF arg s, rfl⟩
  | crcInit => exact ⟨_, exec_crcInit s, rfl⟩
  | crcFeed b => exact ⟨_, exec_crcFeed b s, rfl⟩
  | crcVerify e => exact ⟨_, exec_crcVerify e s, rfl⟩
  | clear => exact ⟨_, exec_clear_of_active h, rfl⟩
  | start c =>
    by_cases hc : c = 7#3
    · rw [hc]
      exact ⟨_, exec_start_reserved s, rfl⟩
    · exact ⟨_, exec_start_of_active hc h, rfl⟩
  | txFrameDevinfo | txFramePwrOn | txFramePwrOff | txFramePwrState | txFrameRegs | txFrameBatt
  | txFrameWarn =>
    exact ⟨_, congrArg Host.Outcome.next (startTransaction_of_active _ h), rfl⟩
  | decPstate | decField | decWarnRestart | decWarnNext | decDevcount =>
    refine ⟨s.refuse .notComplete, ?_, rfl⟩
    simp only [exec, execDecPstate, execDecField, execDecWarnRestart, execDecWarnNext,
      execDecDevcount, decodeCommand_of_active h]
  | decDevrec r k =>
    by_cases hk : k ∈ recordKeys
    · exact ⟨_, (if_pos hk).trans (decodeCommand_of_active h _ _), rfl⟩
    · exact ⟨_, if_neg hk, rfl⟩
  | txDone | rxByte | linkFail => cases hi

theorem stateAfterCount_ne_idle (b : Byte) : stateAfterCount b ≠ .idle := by
  unfold stateAfterCount
  split <;> simp

theorem headerDone_st_ne_idle (s : State) (h : List Byte) (b : Byte) :
    (s.headerDone h b).st ≠ .idle := by
  obtain ⟨-, hdone⟩ | ⟨-, -, hdone⟩ | ⟨-, -, hdone⟩ | ⟨-, -, hdone⟩ := headerDone_cases s h b <;>
    simp [hdone, stateAfterCount_ne_idle]

theorem rxHeader_st_ne_idle {s : State} (h : s.st ≠ .idle) (b : Byte) :
    (s.rxHeader b).st ≠ .idle := by
  obtain ⟨-, hnext⟩ | ⟨-, hdone⟩ := rxHeader_cases s b
  · rw [hnext]
    exact h
  · rw [hdone]
    exact headerDone_st_ne_idle _ _ _

theorem rxReadBody_st_ne_idle {s : State} (h : s.st ≠ .idle) (b : Byte) :
    (s.rxReadBody b).st ≠ .idle := by
  simp only [State.rxReadBody]
  split <;> simp [h]

theorem objectDone_st_ne_idle {s : State} (h : s.st ≠ .idle) : s.objectDone.st ≠ .idle := by
  simp only [State.objectDone]
  split <;> simp [h]

theorem tlvWalk_st_ne_idle {s : State} (h : s.st ≠ .idle) (b : Byte) :
    (s.tlvWalk b).st ≠ .idle := by
  obtain ⟨-, hwalk⟩ | ⟨-, -, hwalk⟩ | ⟨-, -, hwalk⟩ | ⟨-, -, hwalk⟩ | ⟨-, -, hwalk⟩ :=
    tlvWalk_cases s b <;> rw [hwalk]
  case inr.inr.inl | inr.inr.inr.inr => exact objectDone_st_ne_idle h
  all_goals exact h

theorem rxBody_st_ne_idle {s : State} (h : s.st ≠ .idle) (b : Byte) : (s.rxBody b).st ≠ .idle := by
  obtain ⟨-, hbody⟩ | ⟨-, hbody⟩ | ⟨-, hbody⟩ := rxBody_cases s b <;> rw [hbody]
  case inl => exact tlvWalk_st_ne_idle (s := s.acceptByte b) h b
  case inr.inl => exact rxReadBody_st_ne_idle h b
  case inr.inr => exact h

theorem runDecodeCheck_st_ne_idle (s : State) : s.runDecodeCheck.st ≠ .idle := by
  obtain ⟨-, hcheck⟩ | ⟨_, -, hcheck⟩ := runDecodeCheck_cases s <;> simp [hcheck]

theorem rxTrailer_st_ne_idle {s : State} (h : s.st ≠ .idle) (b : Byte) :
    (s.rxTrailer b).st ≠ .idle := by
  obtain ⟨-, hbyte⟩ | ⟨-, -, hbyte⟩ | ⟨-, -, hbyte⟩ := rxTrailer_cases s b <;> rw [hbyte]
  case inl => exact h
  case inr.inl => simp
  case inr.inr => exact runDecodeCheck_st_ne_idle _

theorem exec_rxByte_st_ne_idle (b : Byte) {s : State} (h : s.st ≠ .idle) :
    ∃ t, exec (.rxByte b) s = .next t ∧ t.st ≠ .idle := by
  obtain ⟨-, hexec⟩ | ⟨-, hexec⟩ | ⟨-, hexec⟩ | ⟨-, hexec⟩ := execRxByte_cases b s
  · exact ⟨_, hexec, rxHeader_st_ne_idle h b⟩
  · exact ⟨_, hexec, rxBody_st_ne_idle h b⟩
  · exact ⟨_, hexec, rxTrailer_st_ne_idle h b⟩
  · exact ⟨_, hexec, h⟩

theorem exec_txDone_st_ne_idle (n : BitVec 4) {s : State} (h : s.st ≠ .idle) :
    ∃ t, exec (.txDone n) s = .next t ∧ t.st ≠ .idle := by
  by_cases hst : s.st = .sent
  · rcases Nat.lt_or_ge n.toNat s.txLen.toNat with hn | hn
    · exact ⟨_, exec_txDone_of_short hst hn, by simp⟩
    · exact ⟨_, exec_txDone_of_whole hst hn, by simp⟩
  · exact ⟨_, exec_txDone_of_not_sent n hst, h⟩

theorem exec_linkFail_st_ne_idle (c : BitVec 3) {s : State} (h : s.st ≠ .idle) :
    ∃ t, exec (.linkFail c) s = .next t ∧ t.st ≠ .idle := by
  by_cases hc : c ∈ [1#3, 3#3, 4#3]
  · cases hst : s.st.active with
    | true => exact ⟨_, exec_linkFail_of_active hc hst, by simp⟩
    | false => exact ⟨_, exec_linkFail_of_not_active hc hst, h⟩
  · exact ⟨_, exec_linkFail_of_no_cause hc s, h⟩

/-- From an active state no word leads to Idle: a transport word never does outside Idle, and the
others leave `st`. -/
theorem exec_of_active_st_ne_idle (i : Instr) {s : State} (h : s.st.active = true) :
    ∃ t, exec i s = .next t ∧ t.st ≠ .idle := by
  have hst : s.st ≠ .idle := fun hidle => by simp [hidle, Fsm.active] at h
  cases hi : transportWord i with
  | true =>
    cases i with
    | txDone n => exact exec_txDone_st_ne_idle n hst
    | rxByte b => exact exec_rxByte_st_ne_idle b hst
    | linkFail c => exact exec_linkFail_st_ne_idle c hst
    | _ => cases hi
  | false =>
    obtain ⟨t, hexec, hkept⟩ := exec_host_of_active h hi
    exact ⟨t, hexec, hkept ▸ hst⟩

/-- Settles O18: the words that are not the transport's leave `st`, START and CLEAR by their BUSY
refusals, and what a transport word leads to is never Idle. -/
theorem activeTransactionCannotBeCancelled : Obligations.ActiveTransactionCannotBeCancelled := by
  refine ⟨?kept, fun _ _ h hc => exec_start_of_active hc h, fun _ => exec_clear_of_active, ?notIdle⟩
  case kept =>
    intro i s t h hexec hi
    obtain ⟨t', hexec', hst⟩ := exec_host_of_active h hi
    cases hexec.symm.trans hexec'
    exact hst
  case notIdle =>
    intro i s t h hexec
    obtain ⟨t', hexec', hst⟩ := exec_of_active_st_ne_idle i h
    cases hexec.symm.trans hexec'
    exact hst

end Sys2Proof.Proofs.Parser

/-! PROOF. The register decoder (44_decoder.md): the common checks of the decode commands, the reads of the
RX buffer as numbers, and what each of the commands reports in Complete. -/

namespace Sys2Proof.Proofs.RegisterDecoder

open Machine Statement Proofs.Encoding Proofs.Checksum

/-! ### The common checks (R145) -/

theorem decodeCommand_of_not_complete {s : State} (h : s.st ≠ .complete) (allowed : List Txn)
    (body : State → Answer) : s.decodeCommand allowed body = .next (s.refuse .notComplete) := by
  simpa [h] using decodeCommand_cases s allowed body

theorem decodeCommand_of_not_allowed {s : State} {allowed : List Txn} (h : s.st = .complete)
    (ht : s.txn ∉ allowed) (body : State → Answer) :
    s.decodeCommand allowed body = .next (s.refuse .wrongTxn) := by
  simpa [h, ht] using decodeCommand_cases s allowed body

theorem decodeCommand_of_allowed {s : State} {allowed : List Txn} (h : s.st = .complete)
    (ht : s.txn ∈ allowed) (body : State → Answer) : s.decodeCommand allowed body = body s := by
  simpa [h, ht] using decodeCommand_cases s allowed body

/-- Whatever its body does, a decode command meets the common checks first. -/
theorem refusedUnlessComplete_of_decodeCommand {i : Instr} {allowed : List Txn}
    {body : State → Answer} (hexec : ∀ s, exec i s = s.decodeCommand allowed body) :
    RefusedUnlessComplete i allowed := by
  intro s
  rw [hexec]
  exact ⟨fun h => decodeCommand_of_not_complete h allowed body,
    fun h ht => decodeCommand_of_not_allowed h ht body⟩

theorem refusedUnlessComplete_decPstate : RefusedUnlessComplete .decPstate [.pwrState] :=
  refusedUnlessComplete_of_decodeCommand fun _ => rfl

theorem refusedUnlessComplete_decField (i : BitVec 8) :
    RefusedUnlessComplete (.decField i) [.regs, .batt] :=
  refusedUnlessComplete_of_decodeCommand fun _ => rfl

theorem refusedUnlessComplete_decWarnRestart : RefusedUnlessComplete .decWarnRestart [.warn] :=
  refusedUnlessComplete_of_decodeCommand fun _ => rfl

theorem refusedUnlessComplete_decWarnNext : RefusedUnlessComplete .decWarnNext [.warn] :=
  refusedUnlessComplete_of_decodeCommand fun _ => rfl

theorem refusedUnlessComplete_decDevcount : RefusedUnlessComplete .decDevcount [.devinfo] :=
  refusedUnlessComplete_of_decodeCommand fun _ => rfl

theorem refusedUnlessComplete_decDevrec (r : BitVec 8) {k : BitVec 3} (hk : k ∈ recordKeys) :
    RefusedUnlessComplete (.decDevrec r k) [.devinfo] :=
  refusedUnlessComplete_of_decodeCommand fun _ => if_pos hk

/-- The key is checked before the common checks (R142). -/
theorem exec_decDevrec_of_no_key (r : BitVec 8) {k : BitVec 3} (hk : k ∉ recordKeys) (s : State) :
    exec (.decDevrec r k) s = .next { s with cmdErr := .illegal } :=
  if_neg hk

/-- Settles O32: each of the six commands is `decodeCommand` of its transactions, DEC_DEVREC past the
check of its key. -/
theorem decodeCommandsCheckStateThenTransaction :
    Obligations.DecodeCommandsCheckStateThenTransaction := by
  refine ⟨fun i r k hk => ?commands, fun r _ s hk => exec_decDevrec_of_no_key r hk s⟩
  case commands =>
    simp only [decodeCommands, List.forall_mem_cons]
    exact ⟨refusedUnlessComplete_decPstate, refusedUnlessComplete_decField i,
      refusedUnlessComplete_decWarnRestart, refusedUnlessComplete_decWarnNext,
      refusedUnlessComplete_decDevcount, refusedUnlessComplete_decDevrec r hk,
      List.forall_mem_nil _⟩

/-! ### Fields of the RX buffer as numbers (00_scope.md R9, R11) -/

theorem be16_toNat_eq_be16Nat (m : Memory) (i : Nat) : (m.be16 i).toNat = be16Nat m i :=
  m.be16_toNat i

theorem be32_toNat_eq_be32Nat (m : Memory) (i : Nat) : (m.be32 i).toNat = be32Nat m i := by
  rw [m.be32_toNat, be32Nat, be16Nat, be16Nat]
  ring

theorem be16_setWidth_eq_ofNat (m : Memory) (i : Nat) :
    (m.be16 i).setWidth 32 = BitVec.ofNat 32 (be16Nat m i) := by
  rw [← be16_toNat_eq_be16Nat, BitVec.ofNat_toNat]

theorem be32_eq_ofNat (m : Memory) (i : Nat) : m.be32 i = BitVec.ofNat 32 (be32Nat m i) := by
  rw [← be32_toNat_eq_be32Nat, BitVec.ofNat_toNat, BitVec.setWidth_eq]

/-- A flag as a digit of the word it stands in. -/
theorem msb0Bit_toNat (w : BitVec 16) (p : BitVec 4) :
    (msb0Bit w p).toNat = w.toNat / 2 ^ (15 - p.toNat) % 2 :=
  Nat.toNat_testBit _ _

theorem ofBool_setWidth_eq_ofNat (b : Bool) {w : Nat} :
    (BitVec.ofBool b).setWidth w = BitVec.ofNat w b.toNat := by
  rw [← BitVec.toNat_ofBool, BitVec.ofNat_toNat]

/-! ### DEC_PSTATE (R126, R127) -/

theorem powerClass_eq_ofNat (v : BitVec 16) :
    powerClass v = BitVec.ofNat 16 (if v.toNat < 4 then v.toNat else 4) := by
  unfold powerClass
  split <;> simp

theorem exec_decPstate_of_pwrState {s : State} (hst : s.st = .complete) (ht : s.txn = .pwrState) :
    exec .decPstate s =
      .next (s.setOutputs ((s.rxBuf.be16 3).setWidth 32) (powerClass (s.rxBuf.be16 3)) true) := by
  simp only [exec, execDecPstate, decodeCommand_of_allowed hst (List.mem_singleton.2 ht)]

/-- Settles O33: the two bytes and their class, read as a number. -/
theorem powerStateIsReportedWithItsClass : Obligations.PowerStateIsReportedWithItsClass := by
  refine ⟨rfl, refusedAbove_of_reservedMask rfl, refusedUnlessComplete_decPstate, ?complete⟩
  case complete =>
    rintro s v hst ht rfl
    rw [exec_decPstate_of_pwrState hst ht, be16_setWidth_eq_ofNat, powerClass_eq_ofNat,
      be16_toNat_eq_be16Nat]
    rfl

/-! ### DEC_FIELD (R130, R131) -/

theorem divisor_eq_getD :
    ∀ c : BitVec 2, divisor c = [1#16, 10#16, 100#16, 1000#16].getD c.toNat 0#16 := by
  decide

theorem extractRaw_u16 (m : Memory) (fid : BitVec 16) (off : BitVec 8) (c : BitVec 2) :
    extractRaw m ⟨fid, off, .u16 c⟩ = BitVec.ofNat 32 (be16Nat m (3 + off.toNat)) :=
  be16_setWidth_eq_ofNat m _

theorem extractRaw_u32 (m : Memory) (fid : BitVec 16) (off : BitVec 8) (c : BitVec 2) :
    extractRaw m ⟨fid, off, .u32 c⟩ = BitVec.ofNat 32 (be32Nat m (3 + off.toNat)) :=
  be32_eq_ofNat m _

theorem extractRaw_bit (m : Memory) (fid : BitVec 16) (off : BitVec 8) (p : BitVec 4) :
    extractRaw m ⟨fid, off, .bit p⟩ =
      BitVec.ofNat 32 (be16Nat m (3 + off.toNat) / 2 ^ (15 - p.toNat) % 2) := by
  rw [← be16_toNat_eq_be16Nat, ← msb0Bit_toNat]
  exact ofBool_setWidth_eq_ofNat _

theorem extractDivisor_u16 (fid : BitVec 16) (off : BitVec 8) (c : BitVec 2) :
    extractDivisor ⟨fid, off, .u16 c⟩ = [1#16, 10#16, 100#16, 1000#16].getD c.toNat 0#16 :=
  divisor_eq_getD c

theorem extractDivisor_u32 (fid : BitVec 16) (off : BitVec 8) (c : BitVec 2) :
    extractDivisor ⟨fid, off, .u32 c⟩ = [1#16, 10#16, 100#16, 1000#16].getD c.toNat 0#16 :=
  divisor_eq_getD c

theorem extractDivisor_bit (fid : BitVec 16) (off : BitVec 8) (p : BitVec 4) :
    extractDivisor ⟨fid, off, .bit p⟩ = 1#16 := rfl

theorem fieldRom_of_regs {s : State} (ht : s.txn = .regs) : fieldRom s = s.cfg.regRom :=
  if_pos ht

theorem fieldRom_of_batt {s : State} (ht : s.txn = .batt) : fieldRom s = s.cfg.battRom :=
  if_neg (by simp [ht])

theorem encode_decField (i : BitVec 8) : encode (.decField i) = .word (0x7#4 ++ 0#8 ++ i) :=
  congrArg Encoding.word (append_setWidth_eq (z := 8) 0x7#4 i)

theorem exec_decField_of_past_end {i : BitVec 8} {s : State} (hst : s.st = .complete)
    (ht : s.txn ∈ [.regs, .batt]) (hi : (fieldRom s).length ≤ i.toNat) :
    exec (.decField i) s = .next { s with cmdErr := .range } := by
  simp only [exec, execDecField, decodeCommand_of_allowed hst ht, List.getElem?_eq_none hi,
    State.refuse]

theorem exec_decField_of_entry {i : BitVec 8} {s : State} {e : FieldEntry} (hst : s.st = .complete)
    (ht : s.txn ∈ [.regs, .batt]) (he : (fieldRom s)[i.toNat]? = some e) :
    exec (.decField i) s =
      .next (s.setOutputs (extractRaw s.rxBuf e) (extractDivisor e) true) := by
  simp only [exec, execDecField, decodeCommand_of_allowed hst ht, he]

/-- Settles O34: the entry of the transaction's own ROM, and for each kind its slot and its divisor. -/
theorem fieldIsExtractedFromItsSlot : Obligations.FieldIsExtractedFromItsSlot := by
  refine ⟨encode_decField, refusedAbove_of_reservedMask rfl, refusedUnlessComplete_decField,
    ?complete⟩
  case complete =>
    intro i s rom hst hrom
    obtain ⟨ht, rfl⟩ : s.txn ∈ [.regs, .batt] ∧ fieldRom s = rom := by
      obtain ⟨ht, rfl⟩ | ⟨ht, rfl⟩ := hrom
      · exact ⟨by simp [ht], fieldRom_of_regs ht⟩
      · exact ⟨by simp [ht], fieldRom_of_batt ht⟩
    refine ⟨exec_decField_of_past_end hst ht, fun ⟨fid, off, kind⟩ he => ?_⟩
    rw [exec_decField_of_entry hst ht he]
    cases kind with
    | u16 c =>
      rw [extractRaw_u16, extractDivisor_u16]
      rfl
    | u32 c =>
      rw [extractRaw_u32, extractDivisor_u32]
      rfl
    | bit p =>
      rw [extractRaw_bit, extractDivisor_bit]
      rfl

/-! ### DEC_WARN_RESTART (R136) -/

theorem exec_decWarnRestart_of_warn {s : State} (hst : s.st = .complete) (ht : s.txn = .warn) :
    exec .decWarnRestart s =
      .next { s with warnPtr := 0#9, dvalid := false, dend := false, cmdErr := .ok } := by
  simp only [exec, execDecWarnRestart, decodeCommand_of_allowed hst (List.mem_singleton.2 ht)]

/-- Settles O35: past the common checks the command is its one record update. -/
theorem warnRestartRewindsTheIterator : Obligations.WarnRestartRewindsTheIterator :=
  ⟨rfl, refusedAbove_of_reservedMask rfl, refusedUnlessComplete_decWarnRestart,
    fun _ => exec_decWarnRestart_of_warn⟩

/-! ### DEC_WARN_NEXT (R137, R139) -/

theorem warnBit_toNat (m : Memory) (e : WarnEntry) :
    (warnBit m e).toNat = be16Nat m (3 + e.off.toNat) / 2 ^ (15 - e.bit.toNat) % 2 := by
  rw [← be16_toNat_eq_be16Nat]
  exact msb0Bit_toNat _ _

theorem warnBit_eq_true_iff {m : Memory} {e : WarnEntry} :
    warnBit m e = true ↔ be16Nat m (3 + e.off.toNat) / 2 ^ (15 - e.bit.toNat) % 2 = 1 := by
  rw [← warnBit_toNat, Bool.toNat_eq_one]

theorem warnBit_eq_false_iff {m : Memory} {e : WarnEntry} :
    warnBit m e = false ↔ be16Nat m (3 + e.off.toNat) / 2 ^ (15 - e.bit.toNat) % 2 = 0 := by
  rw [← warnBit_toNat, Bool.toNat_eq_zero]

/-- The search stops at the first active entry, `n` entries after the position it starts from. -/
theorem nextActive_of_first {m : Memory} {rom : List WarnEntry} {n : Nat} {e : WarnEntry} (j : Nat)
    (he : rom[n]? = some e) (hactive : warnBit m e = true)
    (hbefore : ∀ k < n, ∀ e', rom[k]? = some e' → warnBit m e' = false) :
    nextActive m j rom = some (j + n, e) := by
  induction rom generalizing j n with
  | nil => simp at he
  | cons x rom ih =>
    cases n with
    | zero =>
      obtain rfl : x = e := by simpa using he
      simp [nextActive, hactive]
    | succ n =>
      have hx : warnBit m x = false := hbefore 0 n.succ_pos x rfl
      have hrest := ih (j + 1) he fun k hk e' he' => hbefore (k + 1) (by omega) e' he'
      simpa [nextActive, hx, Nat.add_assoc, Nat.add_comm 1] using hrest

theorem nextActive_of_none {m : Memory} {rom : List WarnEntry} (j : Nat)
    (h : ∀ e ∈ rom, warnBit m e = false) : nextActive m j rom = none := by
  induction rom generalizing j with
  | nil => rfl
  | cons x rom ih =>
    obtain ⟨hx, hrom⟩ := List.forall_mem_cons.1 h
    simp [nextActive, hx, ih (j + 1) hrom]

theorem exec_decWarnNext_of_some {s : State} {j : Nat} {e : WarnEntry} (hst : s.st = .complete)
    (ht : s.txn = .warn)
    (hnext :
      nextActive s.rxBuf s.warnPtr.toNat (s.cfg.warnRom.drop s.warnPtr.toNat) = some (j, e)) :
    exec .decWarnNext s = .next { s with
      dout := e.wid.setWidth 32, daux := e.rid, dvalid := true, dend := false
      warnPtr := BitVec.ofNat 9 (j + 1), cmdErr := .ok } := by
  simp only [exec, execDecWarnNext, decodeCommand_of_allowed hst (List.mem_singleton.2 ht), hnext,
    State.setOutputs]

theorem exec_decWarnNext_of_none {s : State} (hst : s.st = .complete) (ht : s.txn = .warn)
    (hnext : nextActive s.rxBuf s.warnPtr.toNat (s.cfg.warnRom.drop s.warnPtr.toNat) = none) :
    exec .decWarnNext s = .next { s with
      dout := 0#32, daux := 0#16, dvalid := false, dend := true
      warnPtr := BitVec.ofNat 9 s.cfg.warnRom.length, cmdErr := .ok } := by
  simp only [exec, execDecWarnNext, decodeCommand_of_allowed hst (List.mem_singleton.2 ht), hnext,
    State.setOutputs]

/-- Settles O36: the search through the ROM from `warn_ptr` on ends at the first active entry, or finds
none. -/
theorem warnNextReportsTheNextActiveWarning :
    Obligations.WarnNextReportsTheNextActiveWarning := by
  refine ⟨rfl, refusedAbove_of_reservedMask rfl, refusedUnlessComplete_decWarnNext,
    fun s hst ht => ⟨?found, ?exhausted⟩⟩
  case found =>
    intro j e hj he hactive hbefore
    obtain ⟨n, rfl⟩ := Nat.exists_eq_add_of_le hj
    have hbit := warnBit_eq_true_iff.2 hactive
    refine exec_decWarnNext_of_some hst ht (nextActive_of_first _ ?_ hbit ?_)
    · rwa [List.getElem?_drop]
    · intro k hk e' he'
      rw [List.getElem?_drop] at he'
      exact warnBit_eq_false_iff.2 (hbefore _ e' (by omega) (by omega) he')
  case exhausted =>
    intro hclear
    refine exec_decWarnNext_of_none hst ht (nextActive_of_none _ fun e he => ?_)
    obtain ⟨n, hn⟩ := List.mem_iff_getElem?.1 he
    rw [List.getElem?_drop] at hn
    exact warnBit_eq_false_iff.2 (hclear _ e (by omega) hn)

/-! ### DEC_DEVREC (R142)

The decode check that a Complete transaction has passed (43_parser.md R117) is what makes every key of
every record present (R144). -/

theorem recordOk_iff {m : Memory} {v : Slice} :
    recordOk m v = true ↔ ∀ k ∈ recordKeys, (recordField m v k).isSome = true :=
  List.all_eq_true

theorem isCount_iff {o : TlvObject} : o.isCount = true ↔ o.id = 0x87#8 :=
  beq_iff_eq

theorem objectFault_eq_none_iff {m : Memory} {o : TlvObject} :
    objectFault m o = none ↔ ObjectOk m o := by
  by_cases hid : o.id = 0x87#8
  · simp [objectFault, ObjectOk, isCount_iff.2 hid, hid]
  · have hfault : objectFault m o = none ↔ recordOk m o.value = true := by
      simp [objectFault, isCount_iff.not.2 hid]
    rw [hfault, recordOk_iff]
    exact ⟨fun hkeys => ⟨fun hcount => absurd hcount hid, fun _ => hkeys⟩,
      fun ⟨_, hkeys⟩ => hkeys hid⟩

theorem objectOk_of_controlInv {s : State} (hinv : ControlInv s) (hst : s.st = .complete)
    (ht : s.txn = .devinfo) : ∀ o ∈ objects s.rxBuf s.decl, ObjectOk s.rxBuf o := by
  have hcheck : decodeCheck s = none := hinv.checked hst (by simp [ht, isWrite])
  unfold decodeCheck at hcheck
  split at hcheck
  · cases hcheck
  · rw [ht] at hcheck
    exact fun o ho => objectFault_eq_none_iff.1 (List.findSome?_eq_none_iff.1 hcheck o ho)

theorem records_getElem? (os : List TlvObject) (n : Nat) :
    (records os)[n]? = (os.filter fun o => o.id != 0x87#8)[n]?.map TlvObject.value :=
  List.getElem?_map

theorem encode_decDevrec (r : BitVec 8) (k : BitVec 3) :
    encode (.decDevrec r k) = .word (0xB#4 ++ 0#5 ++ k ++ r) :=
  congrArg Encoding.word
    ((append_setWidth_eq (z := 5) 0xB#4 (k ++ r)).trans BitVec.append_assoc.symm)

theorem exec_decDevrec_of_past_end {r : BitVec 8} {k : BitVec 3} {s : State} (hk : k ∈ recordKeys)
    (hst : s.st = .complete) (ht : s.txn = .devinfo)
    (hr : (records (objects s.rxBuf s.decl))[r.toNat]? = none) :
    exec (.decDevrec r k) s = .next { s with cmdErr := .range } := by
  simp only [exec, execDecDevrec, if_pos hk, decodeCommand_of_allowed hst (List.mem_singleton.2 ht),
    hr, State.refuse]

theorem exec_decDevrec_of_field {r : BitVec 8} {k : BitVec 3} {s : State} {v f : Slice}
    (hk : k ∈ recordKeys) (hst : s.st = .complete) (ht : s.txn = .devinfo)
    (hr : (records (objects s.rxBuf s.decl))[r.toNat]? = some v)
    (hf : recordField s.rxBuf v k = some f) :
    exec (.decDevrec r k) s =
      .next (s.setOutputs (BitVec.ofNat 32 f.start) (BitVec.ofNat 16 f.len) true) := by
  simp only [exec, execDecDevrec, if_pos hk, decodeCommand_of_allowed hst (List.mem_singleton.2 ht),
    hr, fieldOutputs, hf]

/-- Settles O39: the records are the objects that are no device count, and the decode check has found each
of them to hold the key. -/
theorem deviceRecordFieldIsLocated : Obligations.DeviceRecordFieldIsLocated := by
  refine ⟨encode_decDevrec, refusedAbove_of_reservedMask rfl,
    fun r _ hk => exec_decDevrec_of_no_key r hk, fun r _ => refusedUnlessComplete_decDevrec r,
    ?complete⟩
  case complete =>
    rintro r k s recs hinv hst ht hk rfl
    refine ⟨fun hr => exec_decDevrec_of_past_end hk hst ht ?_, fun o ho => ?_⟩
    · rw [records_getElem?, List.getElem?_eq_none hr, Option.map_none]
    · obtain ⟨hmem, hid⟩ := List.mem_filter.1 (List.mem_of_getElem? ho)
      obtain ⟨-, hkeys⟩ := objectOk_of_controlInv hinv hst ht o hmem
      obtain ⟨f, hf⟩ := Option.isSome_iff_exists.1 (hkeys (bne_iff_ne.1 hid) k hk)
      refine ⟨f, hf, exec_decDevrec_of_field hk hst ht ?_ hf⟩
      rw [records_getElem?, ho, Option.map_some]

end Sys2Proof.Proofs.RegisterDecoder

/-! PROOF. Terminal states and the failure record (60_exceptions.md R149): what the host's queries write
(R151), what a START word and a transport word come to when no transaction is active, and what leaves
Complete and Failed. -/

namespace Sys2Proof.Proofs.Exceptions

open Machine Statement Proofs.Encoding Proofs.Checksum Proofs.Assembler Proofs.Parser
open Proofs.RegisterDecoder

/-! ### The host's CRC and decode commands write the host's registers only (R151) -/

/-- `t` is `s` but for the results of the host's commands, `warn_ptr` and `cmd_err`. -/
def HostRegistersOnly (s t : State) : Prop :=
  t = { s with
    genCrc := t.genCrc, crcOk := t.crcOk, cmdErr := t.cmdErr
    dout := t.dout, daux := t.daux, dvalid := t.dvalid, dend := t.dend, warnPtr := t.warnPtr }

theorem hostRegistersOnly_refuse (s : State) (c : CmdErr) : HostRegistersOnly s (s.refuse c) := rfl

theorem hostRegistersOnly_setOutputs (s : State) (d : BitVec 32) (a : BitVec 16) (v : Bool) :
    HostRegistersOnly s (s.setOutputs d a v) := rfl

/-- The common checks write `cmd_err` only, so a decode command writes what its body does. -/
theorem hostRegistersOnly_of_decodeCommand {i : Instr} {s : State} {allowed : List Txn}
    {body : State → Answer} (hexec : ∀ s, exec i s = s.decodeCommand allowed body)
    (hbody : ∃ t, body s = .next t ∧ HostRegistersOnly s t) :
    ∃ t, exec i s = .next t ∧ HostRegistersOnly s t := by
  rw [hexec]
  obtain ⟨-, hcmd⟩ | ⟨-, -, hcmd⟩ | ⟨-, -, hcmd⟩ := decodeCommand_cases s allowed body <;> rw [hcmd]
  case inr.inr => exact hbody
  all_goals exact ⟨_, rfl, hostRegistersOnly_refuse s _⟩

theorem exec_decField_hostRegistersOnly (i : BitVec 8) (s : State) :
    ∃ t, exec (.decField i) s = .next t ∧ HostRegistersOnly s t := by
  refine hostRegistersOnly_of_decodeCommand (fun _ => rfl) ?_
  cases (fieldRom s)[i.toNat]? with
  | none => exact ⟨_, rfl, hostRegistersOnly_refuse s _⟩
  | some e => exact ⟨_, rfl, hostRegistersOnly_setOutputs s _ _ _⟩

theorem exec_decWarnNext_hostRegistersOnly (s : State) :
    ∃ t, exec .decWarnNext s = .next t ∧ HostRegistersOnly s t := by
  refine hostRegistersOnly_of_decodeCommand (fun _ => rfl) ?_
  dsimp only
  cases nextActive s.rxBuf s.warnPtr.toNat (s.cfg.warnRom.drop s.warnPtr.toNat) with
  | none => exact ⟨_, rfl, rfl⟩
  | some found => exact ⟨_, rfl, rfl⟩

theorem exec_decDevrec_hostRegistersOnly (r : BitVec 8) (k : BitVec 3) (s : State) :
    ∃ t, exec (.decDevrec r k) s = .next t ∧ HostRegistersOnly s t := by
  by_cases hk : k ∈ recordKeys
  · refine hostRegistersOnly_of_decodeCommand (fun _ => if_pos hk) ?_
    cases (records (objects s.rxBuf s.decl))[r.toNat]? with
    | none => exact ⟨_, rfl, hostRegistersOnly_refuse s _⟩
    | some v => exact ⟨_, rfl, hostRegistersOnly_setOutputs s _ _ _⟩
  · exact ⟨_, exec_decDevrec_of_no_key r hk s, rfl⟩

theorem exec_hostQuery {i : Instr} (hi : hostQuery i = true) (s : State) :
    ∃ t, exec i s = .next t ∧ HostRegistersOnly s t := by
  cases i with
  | crcInit => exact ⟨_, exec_crcInit s, rfl⟩
  | crcFeed b => exact ⟨_, exec_crcFeed b s, rfl⟩
  | crcVerify e => exact ⟨_, exec_crcVerify e s, rfl⟩
  | decPstate | decWarnRestart | decDevcount =>
    refine hostRegistersOnly_of_decodeCommand (fun _ => rfl) ?_
    exact ⟨_, rfl, rfl⟩
  | decField j => exact exec_decField_hostRegistersOnly j s
  | decWarnNext => exact exec_decWarnNext_hostRegistersOnly s
  | decDevrec r k => exact exec_decDevrec_hostRegistersOnly r k s
  | _ => cases hi

/-! ### The words that keep the record of a terminal state -/

/-- What a terminal state keeps until it is left: `st`, the failure record and the events. -/
def KeepsRecord (s t : State) : Prop :=
  t.st = s.st ∧ t.errKind = s.errKind ∧ t.errCause = s.errCause ∧ t.errState = s.errState ∧
    t.events = s.events

theorem HostRegistersOnly.keepsRecord {s t : State} (h : HostRegistersOnly s t) :
    KeepsRecord s t := by
  rw [h]
  exact ⟨rfl, rfl, rfl, rfl, rfl⟩

theorem keepsRecord_refuse (s : State) (c : CmdErr) : KeepsRecord s (s.refuse c) :=
  (hostRegistersOnly_refuse s c).keepsRecord

theorem keepsRecord_noteUnexpected (s : State) : KeepsRecord s s.noteUnexpected :=
  ⟨rfl, rfl, rfl, rfl, rfl⟩

theorem terminal_cases {f : Fsm} (h : f.terminal = true) : f = .complete ∨ f = .failed := by
  cases f with
  | complete => exact .inl rfl
  | failed => exact .inr rfl
  | _ => cases h

theorem not_active_of_terminal {f : Fsm} (h : f.terminal = true) : f.active = false := by
  obtain rfl | rfl := terminal_cases h <;> rfl

/-- In a terminal state a transport word is unexpected (43_parser.md R114), or ILLEGAL: no failure is
raised. -/
theorem exec_transportWord_of_terminal {i : Instr} (hi : transportWord i = true) {s : State}
    (h : s.st.terminal = true) :
    exec i s = .next s.noteUnexpected ∨ exec i s = .next (s.refuse .illegal) := by
  cases i with
  | txDone n =>
    have hst : s.st ≠ .sent := fun hsent => by simp [hsent, Fsm.terminal] at h
    exact .inl (exec_txDone_of_not_sent n hst)
  | rxByte b =>
    have hst : s.st ∈ [Fsm.idle, Fsm.sent, Fsm.complete, Fsm.failed] := by
      obtain hst | hst := terminal_cases h <;> simp [hst]
    exact .inl (exec_rxByte_of_no_stage b hst)
  | linkFail c =>
    by_cases hc : c ∈ [1#3, 3#3, 4#3]
    · exact .inl (exec_linkFail_of_not_active hc (not_active_of_terminal h))
    · exact .inr (exec_linkFail_of_no_cause hc s)
  | _ => cases hi

/-! ### The words that leave a terminal state -/

/-- A START word is refused for its selector, or is the START of a transaction (42_assembler.md R90). -/
theorem exec_startWord {i : Instr} (hi : startWord i = true) (s : State) :
    exec i s = .next (s.refuse .illegal) ∨ ∃ x, exec i s = .next (s.startTransaction x) := by
  cases i with
  | start c =>
    by_cases hc : c = 7#3
    · rw [hc]
      exact .inl (exec_start_reserved s)
    · obtain ⟨x, hx⟩ := exists_txnOfCode_eq_some c hc
      exact .inr ⟨x, exec_start_of_txnOfCode hx s⟩
  | txFrameDevinfo | txFramePwrOn | txFramePwrOff | txFramePwrState | txFrameRegs | txFrameBatt
  | txFrameWarn => exact .inr ⟨_, rfl⟩
  | _ => cases hi

theorem noFailure_clearTransaction (s : State) : NoFailure s.clearTransaction := ⟨rfl, rfl, rfl⟩

theorem exec_clear_of_terminal {s : State} (h : s.st.terminal = true) :
    ∃ t, exec .clear s = .next t ∧ t.st = .idle ∧ NoFailure t :=
  ⟨_, exec_clear_of_not_active (not_active_of_terminal h), rfl, noFailure_clearTransaction s⟩

theorem startTransaction_of_terminal {s : State} (x : Txn) (h : s.st.terminal = true) :
    (s.startTransaction x).st = .sent ∧ NoFailure (s.startTransaction x) := by
  rw [startTransaction_of_not_active x (not_active_of_terminal h)]
  exact ⟨rfl, noFailure_clearTransaction s⟩

theorem exec_start_of_terminal {c : BitVec 3} (hc : c ≠ 7#3) {s : State}
    (h : s.st.terminal = true) :
    ∃ t, exec (.start c) s = .next t ∧ t.st = .sent ∧ NoFailure t := by
  obtain ⟨x, hx⟩ := exists_txnOfCode_eq_some c hc
  exact ⟨_, exec_start_of_txnOfCode hx s, startTransaction_of_terminal x h⟩

theorem step_reset_clears {s : State} {rest : List Input} (h : s.input = .reset :: rest) :
    ∃ t, step s = .next t ∧ t.st = .idle ∧ NoFailure t := by
  refine ⟨s.dropInput.applyReset, ?_, rfl, rfl, rfl, rfl⟩
  simp only [step, h]

/-! ### R149 -/

/-- A terminal state is kept with its record, or left by CLEAR or a START, which clear the record. -/
def KeptOrLeft (i : Instr) (s t : State) : Prop :=
  KeepsRecord s t ∨ (i = .clear ∧ t.st = .idle ∧ NoFailure t) ∨
    (startWord i = true ∧ t.st = .sent ∧ NoFailure t)

theorem keptOrLeft_of_refuse {i : Instr} {s : State} {c : CmdErr}
    (hexec : exec i s = .next (s.refuse c)) : ∃ t, exec i s = .next t ∧ KeptOrLeft i s t :=
  ⟨_, hexec, .inl (keepsRecord_refuse s c)⟩

theorem keptOrLeft_of_hostQuery {i : Instr} (hi : hostQuery i = true) (s : State) :
    ∃ t, exec i s = .next t ∧ KeptOrLeft i s t := by
  obtain ⟨t, hexec, hframe⟩ := exec_hostQuery hi s
  exact ⟨t, hexec, .inl hframe.keepsRecord⟩

theorem keptOrLeft_of_transportWord {i : Instr} (hi : transportWord i = true) {s : State}
    (h : s.st.terminal = true) : ∃ t, exec i s = .next t ∧ KeptOrLeft i s t := by
  obtain hexec | hexec := exec_transportWord_of_terminal hi h
  · exact ⟨_, hexec, .inl (keepsRecord_noteUnexpected s)⟩
  · exact keptOrLeft_of_refuse hexec

theorem keptOrLeft_of_startWord {i : Instr} (hi : startWord i = true) {s : State}
    (h : s.st.terminal = true) : ∃ t, exec i s = .next t ∧ KeptOrLeft i s t := by
  obtain hexec | ⟨x, hexec⟩ := exec_startWord hi s
  · exact keptOrLeft_of_refuse hexec
  · exact ⟨_, hexec, .inr (.inr ⟨hi, startTransaction_of_terminal x h⟩)⟩

theorem keptOrLeft_of_terminal (i : Instr) {s : State} (h : s.st.terminal = true) :
    ∃ t, exec i s = .next t ∧ KeptOrLeft i s t := by
  cases i with
  | reserved0 arg => exact keptOrLeft_of_refuse (exec_reserved0 arg s)
  | reservedF arg => exact keptOrLeft_of_refuse (exec_reservedF arg s)
  | clear =>
    obtain ⟨t, hexec, hidle⟩ := exec_clear_of_terminal h
    exact ⟨t, hexec, .inr (.inl ⟨rfl, hidle⟩)⟩
  | start | txFrameDevinfo | txFramePwrOn | txFramePwrOff | txFramePwrState | txFrameRegs
  | txFrameBatt | txFrameWarn => exact keptOrLeft_of_startWord rfl h
  | crcInit | crcFeed | crcVerify | decPstate | decField | decWarnRestart | decWarnNext
  | decDevcount | decDevrec => exact keptOrLeft_of_hostQuery rfl s
  | txDone | rxByte | linkFail => exact keptOrLeft_of_transportWord rfl h

/-- Settles O46: the words by their kinds in a terminal state, where CLEAR and START are never BUSY, and
the RESET input. -/
theorem failuresAreLeftByClearStartOrResetOnly :
    Obligations.FailuresAreLeftByClearStartOrResetOnly := by
  refine ⟨?kept, fun _ => exec_clear_of_terminal, fun _ _ hc => exec_start_of_terminal hc,
    fun _ _ => step_reset_clears⟩
  case kept =>
    intro i s t h hexec
    obtain ⟨t', hexec', hout⟩ := keptOrLeft_of_terminal i h
    cases hexec.symm.trans hexec'
    exact hout

end Sys2Proof.Proofs.Exceptions

/-! PROOF. The RESET input (70_reset_and_hazards.md R160): it is taken off the stream, and the registers
are set whatever they held. -/

namespace Sys2Proof.Proofs.Reset

open Machine Statement

theorem step_of_reset {s : State} {rest : List Input} (h : s.input = .reset :: rest) :
    step s = .next s.dropInput.applyReset := by
  simp only [step, h]

/-- No register after RESET depends on the state before. -/
theorem atReset_applyReset (s : State) : AtReset s.applyReset := by
  constructor <;> rfl

theorem applyReset_reset : State.reset.applyReset = State.reset := rfl

theorem atReset_reset : AtReset State.reset :=
  applyReset_reset ▸ atReset_applyReset State.reset

theorem dropInput_input_of_cons {s : State} {v : Input} {rest : List Input}
    (h : s.input = v :: rest) : s.dropInput.input = rest := by
  rw [State.dropInput_input, h, List.tail_cons]

/-- Settles O1: the state after reset is a fixed point of RESET, so both parts are the one fact that
RESET sets the registers from any state; the configuration and the events are carried over. -/
theorem resetSetsEveryRegister : Obligations.ResetSetsEveryRegister := by
  refine ⟨atReset_reset, fun s rest h => ⟨s.dropInput.applyReset, step_of_reset h, ?registers,
    ?cfg, ?input, ?events⟩⟩
  case registers => exact atReset_applyReset s.dropInput
  case cfg => rw [State.applyReset_cfg, State.dropInput_cfg]
  case input => rw [State.applyReset_input, dropInput_input_of_cons h]
  case events => rw [State.applyReset_events, State.dropInput_events]

end Sys2Proof.Proofs.Reset

/-! PROOF. The encoder and the decoder are inverse to each other (30_encoding.md R71 to R75, R60), the words
that decode are those without a reserved argument bit, and the rows that stand for a START. -/

namespace Sys2Proof.Proofs.RoundTrip

open Machine Statement Laws Proofs.Encoding Proofs.Checksum Proofs.Assembler

/-! ### Running the decoded instruction (00_scope.md R12) -/

theorem step_of_no_input {s : State} (h : s.input = []) : step s = .next s := by
  simp only [step, h]

/-- Settles O2: a word that decodes is run, and without an input the state stays. -/
theorem stepRunsDecodedInstruction : Obligations.StepRunsDecodedInstruction :=
  ⟨fun _ _ _ _ hs hd => step_of_decode_ok hs hd, fun _ => step_of_no_input⟩

/-- Settles O5: the words are literals, so the decoder computes. -/
theorem writtenOutWordsDecode : Obligations.WrittenOutWordsDecode := by
  unfold Obligations.WrittenOutWordsDecode
  decide

/-! ### An operand in its argument field (R71, R72) -/

/-- What an operand was widened to gives it back. -/
theorem extractLsb'_setWidth_self {n w : Nat} (x : BitVec n) (h : n ≤ w) :
    (x.setWidth w).extractLsb' 0 n = x := by
  rw [BitVec.extractLsb'_setWidth_of_le (by omega), BitVec.extractLsb'_eq_self]

/-- An argument whose bits above the `n` low ones are reserved is its `n`-bit operand, widened. -/
theorem setWidth_extractLsb'_of_clean {w n : Nat} {arg : BitVec w}
    (h : arg &&& (BitVec.allOnes w <<< n) = 0#w) : (arg.extractLsb' 0 n).setWidth w = arg := by
  have hlt : arg.toNat < 2 ^ n := Nat.lt_of_not_le fun hn => and_shiftLeft_allOnes_ne_zero hn h
  apply BitVec.eq_of_toNat_eq
  rw [BitVec.toNat_setWidth, BitVec.extractLsb'_toNat, Nat.shiftRight_zero, Nat.mod_eq_of_lt hlt,
    Nat.mod_eq_of_lt arg.isLt]

/-- The two operands of DEC_DEVREC, the key above the record, out of their common field. -/
theorem devrec_operands (r : BitVec 8) (k : BitVec 3) :
    ((k ++ r).setWidth 16).extractLsb' 0 8 = r ∧ ((k ++ r).setWidth 16).extractLsb' 8 3 = k := by
  constructor <;>
    simp (disch := omega) only [BitVec.extractLsb'_setWidth_of_le,
      BitVec.extractLsb'_append_eq_of_le, BitVec.extractLsb'_append_eq_of_add_le,
      BitVec.extractLsb'_eq_self, Nat.sub_self]

/-! ### Decoding an encoding -/

/-- An instruction whose op and argument read back as it is decoded from its word. -/
theorem decodeEncoding_of_word {i : Instr} {op : BitVec 4} {arg : BitVec 16}
    (hclean : EncodeClean.Statement i) (he : encode i = .word (wordOf op arg))
    (hi : instrOf op arg = i) : decodeEncoding (encode i) = .ok i := by
  have hmask : arg &&& reservedMask op = 0#16 := by simpa using hclean _ he
  rw [he, ← hi]
  exact decode_of_clean hmask

/-- Settles O6: no encoding sets a reserved bit, and each operand is read back from its field; the frames
are rows of the frame table. -/
theorem decodeInvertsEncode : Obligations.DecodeInvertsEncode := by
  intro i
  cases i with
  | reserved0 arg => exact decodeEncoding_of_word (EncodeClean.reserved0 arg) rfl rfl
  | reservedF arg => exact decodeEncoding_of_word (EncodeClean.reservedF arg) rfl rfl
  | crcInit => exact decodeEncoding_of_word EncodeClean.crcInit rfl rfl
  | crcVerify e => exact decodeEncoding_of_word (EncodeClean.crcVerify e) rfl rfl
  | clear => exact decodeEncoding_of_word EncodeClean.clear rfl rfl
  | decPstate => exact decodeEncoding_of_word EncodeClean.decPstate rfl rfl
  | decWarnRestart => exact decodeEncoding_of_word EncodeClean.decWarnRestart rfl rfl
  | decWarnNext => exact decodeEncoding_of_word EncodeClean.decWarnNext rfl rfl
  | decDevcount => exact decodeEncoding_of_word EncodeClean.decDevcount rfl rfl
  | crcFeed b =>
    exact decodeEncoding_of_word (EncodeClean.crcFeed b) rfl
      (congrArg Instr.crcFeed (extractLsb'_setWidth_self b (by omega)))
  | start t =>
    exact decodeEncoding_of_word (EncodeClean.start t) rfl
      (congrArg Instr.start (extractLsb'_setWidth_self t (by omega)))
  | decField j =>
    exact decodeEncoding_of_word (EncodeClean.decField j) rfl
      (congrArg Instr.decField (extractLsb'_setWidth_self j (by omega)))
  | decDevrec r k =>
    obtain ⟨hr, hk⟩ := devrec_operands r k
    exact decodeEncoding_of_word (EncodeClean.decDevrec r k) rfl (congrArg₂ Instr.decDevrec hr hk)
  | txDone n =>
    exact decodeEncoding_of_word (EncodeClean.txDone n) rfl
      (congrArg Instr.txDone (extractLsb'_setWidth_self n (by omega)))
  | rxByte b =>
    exact decodeEncoding_of_word (EncodeClean.rxByte b) rfl
      (congrArg Instr.rxByte (extractLsb'_setWidth_self b (by omega)))
  | linkFail c =>
    exact decodeEncoding_of_word (EncodeClean.linkFail c) rfl
      (congrArg Instr.linkFail (extractLsb'_setWidth_self c (by omega)))
  | txFrameDevinfo | txFramePwrOn | txFramePwrOff | txFramePwrState | txFrameRegs | txFrameBatt
  | txFrameWarn => rfl

/-! ### Encoding what was decoded -/

/-- A word is the word of its op and its argument. -/
theorem wordOf_wordOp_wordArg (w : InputWord) : wordOf (wordOp w) (wordArg w) = w := by
  unfold wordOf wordOp wordArg
  rw [BitVec.extractLsb'_append_extractLsb'_eq_extractLsb' (by omega), BitVec.extractLsb'_eq_self]

/-- The argument of an op with one operand field is rebuilt from the operand. -/
theorem word_operand {op : BitVec 4} {arg : BitVec 16} {n : Nat}
    (hmask : reservedMask op = BitVec.allOnes 16 <<< n) (h : arg &&& reservedMask op = 0#16) :
    Encoding.word (wordOf op ((arg.extractLsb' 0 n).setWidth 16)) = .word (wordOf op arg) := by
  rw [hmask] at h
  rw [setWidth_extractLsb'_of_clean h]

/-- The argument of an op without operands is 0. -/
theorem word_no_operand {op : BitVec 4} {arg : BitVec 16}
    (hmask : reservedMask op = BitVec.allOnes 16 <<< 0) (h : arg &&& reservedMask op = 0#16) :
    Encoding.word (wordOf op 0#16) = .word (wordOf op arg) := by
  rw [← word_operand hmask h, BitVec.of_length_zero (x := arg.extractLsb' 0 0)]
  rfl

theorem word_devrec_operands {arg : BitVec 16} (h : arg &&& reservedMask 0xB#4 = 0#16) :
    Encoding.word (wordOf 0xB#4 ((arg.extractLsb' 8 3 ++ arg.extractLsb' 0 8).setWidth 16)) =
      .word (wordOf 0xB#4 arg) := by
  rw [BitVec.extractLsb'_append_extractLsb'_eq_extractLsb' (by omega)]
  exact word_operand (n := 11) rfl h

/-- The ops by their argument: all of it, none, a field of 8, 3 or 4 bits, or the two fields of
DEC_DEVREC (R72). -/
theorem op_argument_cases : ∀ op : BitVec 4,
    op ∈ [0x0#4, 0x3#4, 0xF#4] ∨ op ∈ [0x1#4, 0x5#4, 0x6#4, 0x8#4, 0x9#4, 0xA#4] ∨
    op ∈ [0x2#4, 0x7#4, 0xD#4] ∨ op ∈ [0x4#4, 0xE#4] ∨ op = 0xC#4 ∨ op = 0xB#4 := by
  decide

theorem encode_instrOf {op : BitVec 4} {arg : BitVec 16} (h : arg &&& reservedMask op = 0#16) :
    encode (instrOf op arg) = .word (wordOf op arg) := by
  obtain hop | hop | hop | hop | rfl | rfl := op_argument_cases op
  · fin_cases hop <;> rfl
  · fin_cases hop <;> exact word_no_operand rfl h
  · fin_cases hop <;> exact word_operand (n := 8) rfl h
  · fin_cases hop <;> exact word_operand (n := 3) rfl h
  · exact word_operand (n := 4) rfl h
  · exact word_devrec_operands h

theorem decode_eq_ok_iff {w : InputWord} {i : Instr} :
    decode w = .ok i ↔
      wordArg w &&& reservedMask (wordOp w) = 0#16 ∧ instrOf (wordOp w) (wordArg w) = i := by
  unfold decode
  split <;> simp [*]

/-- Settles O7: a word that decodes has no reserved bit, so its op and its operands are all of it. -/
theorem encodeInvertsDecode : Obligations.EncodeInvertsDecode := by
  intro w i h
  obtain ⟨hclean, rfl⟩ := decode_eq_ok_iff.1 h
  rw [encode_instrOf hclean, wordOf_wordOp_wordArg]

/-! ### The words that decode (R74, R75) -/

theorem exists_decode_eq_ok_iff {op : BitVec 4} {arg : BitVec 16} :
    (∃ i, decode (op ++ arg) = .ok i) ↔ arg &&& reservedMask op = 0#16 := by
  constructor
  · rintro ⟨i, hi⟩
    by_contra hne
    cases (decode_of_reservedBits hne).symm.trans hi
  · exact fun hclean => ⟨_, decode_of_clean hclean⟩

/-- The mask of an op that the list of masks leaves out is empty. -/
theorem listed_or_reservedMask_eq_zero :
    ∀ op : BitVec 4, op ∈ reservedMasks.map Prod.fst ∨ reservedMask op = 0#16 := by
  decide

/-- Settles O8: the decoder's mask of an op is the listed one, or empty where none is listed. -/
theorem decodeRejectsReservedBitsOnly : Obligations.DecodeRejectsReservedBitsOnly := by
  intro op arg
  rw [exists_decode_eq_ok_iff]
  constructor
  · rintro hclean row hrow rfl
    rwa [← reservedMask_of_mem row hrow]
  · intro hrows
    obtain hlisted | hmask := listed_or_reservedMask_eq_zero op
    · obtain ⟨row, hrow, rfl⟩ := List.mem_map.1 hlisted
      rw [reservedMask_of_mem row hrow]
      exact hrows row hrow rfl
    · rw [hmask, BitVec.and_zero]

/-! ### The request-frame rows (R60) and the length tables (R68, R70) -/

theorem encode_instr_of_mem : ∀ r ∈ requestTable, encode r.instr = .frame r.frame := by
  decide

theorem exec_instr_of_mem {r : RequestRow} (hr : r ∈ requestTable) (s : State) :
    exec r.instr s = exec (.start r.selector) s := by
  fin_cases hr <;> rfl

/-- Settles O16: a row runs as its START, whose next state is the row's request. -/
theorem frameRowsRunAsTheirStart : Obligations.FrameRowsRunAsTheirStart := by
  refine fun r hr => ⟨encode_instr_of_mem r hr, exec_instr_of_mem hr, fun s hst => ?_⟩
  rw [exec_instr_of_mem hr]
  exact ⟨_, exec_start_of_mem hr (not_active_of_mem hst), started_of_mem hr s⟩

/-- Settles O22: the tables as they stand. -/
theorem headerAndBodyLengths : Obligations.HeaderAndBodyLengths := by
  unfold Obligations.HeaderAndBodyLengths
  decide

end Sys2Proof.Proofs.RoundTrip

/-! PROOF. What a word can do, said once: `Effect s i t` lists the next states of the instruction `i` in the
state `s`, and what `exec` answers is one of them. From it: the moves of the FSM (43_parser.md R115), what is
emitted (60_exceptions.md R152), what a failure records (R148), and how an invariant is shown to be kept by
a step. -/

namespace Sys2Proof.Proofs.Effects

open Machine Statement Proofs.Encoding Proofs.Checksum Proofs.Assembler Proofs.Parser
open Proofs.RegisterDecoder Proofs.Exceptions

/-! ### The effects -/

/-- The next states of a word. A refusal is `hostOnly`, as it writes `cmd_err` only. -/
inductive Effect (s : State) : Instr → State → Prop
  | hostOnly {i : Instr} {t : State} (h : HostRegistersOnly s t) : Effect s i t
  | unexpected {i : Instr} : Effect s i s.noteUnexpected
  | cleared (hst : s.st.active = false) :
      Effect s .clear { s.clearTransaction with st := .idle, cmdErr := .ok }
  | started {i : Instr} (x : Txn) (hi : startWord i = true) (hst : s.st.active = false) :
      Effect s i (s.assemble x).emitFrame
  | sent (n : BitVec 4) (hst : s.st = .sent) :
      Effect s (.txDone n) { s with st := .awaitingHeader, cmdErr := .ok }
  | shortWrite (n : BitVec 4) (hst : s.st = .sent) (hn : n.toNat < s.txLen.toNat) :
      Effect s (.txDone n) (s.fail .transport causeShortWrite)
  | linkFailed (c : BitVec 3) (hc : c ∈ [1#3, 3#3, 4#3]) (hst : s.st.active = true) :
      Effect s (.linkFail c) (s.fail .transport c)
  | headerByte (b : Byte) (hst : s.st = .awaitingHeader) (hn : s.hdrIdx.toNat + 1 < hdrLen s.txn) :
      Effect s (.rxByte b) { headerByteTaken s b with cmdErr := .ok }
  | headerMismatch (b : Byte) (hst : s.st = .awaitingHeader)
      (hn : hdrLen s.txn ≤ s.hdrIdx.toNat + 1) :
      Effect s (.rxByte b) ((headerByteTaken s b).fail .protocolMismatch causeNone)
  | writeEchoed (b : Byte) (hst : s.st = .awaitingHeader) (hn : hdrLen s.txn ≤ s.hdrIdx.toNat + 1)
      (ht : isWrite s.txn = true) :
      Effect s (.rxByte b) (headerByteTaken s b).enterComplete
  | readHeader (b : Byte) (hst : s.st = .awaitingHeader) (hn : hdrLen s.txn ≤ s.hdrIdx.toNat + 1)
      (ht : isRead s.txn = true) :
      Effect s (.rxByte b) { headerByteTaken s b with
        decl := b, bodyRem := b, st := stateAfterCount b, cmdErr := .ok }
  | identityHeader (b : Byte) (hst : s.st = .awaitingHeader)
      (hn : hdrLen s.txn ≤ s.hdrIdx.toNat + 1) (ht : s.txn = .devinfo) :
      Effect s (.rxByte b) { headerByteTaken s b with
        decl := b, objRem := b, tlvPh := .id, st := stateAfterCount b, cmdErr := .ok }
  | readBody (b : Byte) (hst : s.st = .awaitingBody) (ht : isRead s.txn = true) :
      Effect s (.rxByte b) (s.rxReadBody b)
  | identityBody (b : Byte) (hst : s.st = .awaitingBody) (ht : s.txn = .devinfo) :
      Effect s (.rxByte b) (s.rxIdentityBody b)
  | writeBody (b : Byte) (hst : s.st = .awaitingBody) (ht : isWrite s.txn = true) :
      Effect s (.rxByte b) { s.acceptByte b with cmdErr := .ok }
  | trailerLatched (b : Byte) (hst : s.st = .awaitingChecksum) :
      Effect s (.rxByte b) { s with rxCs := halfOf (hi8 s.rxCs) b, csIdx := true, cmdErr := .ok }
  | trailerMismatch (b : Byte) (hst : s.st = .awaitingChecksum)
      (hne : halfOf b (lo8 s.rxCs) ≠ s.chkCrc) :
      Effect s (.rxByte b)
        (({ s with rxCs := halfOf b (lo8 s.rxCs) } : State).fail .checksum causeNone)
  | decoded (b : Byte) (hst : s.st = .awaitingChecksum) (hcheck : decodeCheck s = none) :
      Effect s (.rxByte b) ({ s with rxCs := s.chkCrc } : State).enterComplete
  | decodeFailed (b : Byte) (c : BitVec 3) (hst : s.st = .awaitingChecksum)
      (hcheck : decodeCheck s = some c) :
      Effect s (.rxByte b) (({ s with rxCs := s.chkCrc } : State).fail .decode c)

theorem effect_refuse (i : Instr) (s : State) (c : CmdErr) : Effect s i (s.refuse c) :=
  .hostOnly (hostRegistersOnly_refuse s c)

/-! ### Every word has an effect -/

theorem effect_startWord {i : Instr} (hi : startWord i = true) (s : State) :
    ∃ t, exec i s = .next t ∧ Effect s i t := by
  obtain hexec | ⟨x, hexec⟩ := exec_startWord hi s
  · exact ⟨_, hexec, effect_refuse i s _⟩
  · refine ⟨_, hexec, ?_⟩
    obtain ⟨-, hbusy⟩ | ⟨hst, hstart⟩ := startTransaction_cases s x
    · exact hbusy ▸ effect_refuse i s _
    · exact hstart ▸ .started x hi hst

theorem effect_clear (s : State) : ∃ t, exec .clear s = .next t ∧ Effect s .clear t := by
  cases hst : s.st.active with
  | true => exact ⟨_, exec_clear_of_active hst, effect_refuse _ s _⟩
  | false => exact ⟨_, exec_clear_of_not_active hst, .cleared hst⟩

theorem effect_txDone (n : BitVec 4) (s : State) :
    ∃ t, exec (.txDone n) s = .next t ∧ Effect s (.txDone n) t := by
  by_cases hst : s.st = .sent
  · rcases Nat.lt_or_ge n.toNat s.txLen.toNat with hn | hn
    · exact ⟨_, exec_txDone_of_short hst hn, .shortWrite n hst hn⟩
    · exact ⟨_, exec_txDone_of_whole hst hn, .sent n hst⟩
  · exact ⟨_, exec_txDone_of_not_sent n hst, .unexpected⟩

theorem effect_linkFail (c : BitVec 3) (s : State) :
    ∃ t, exec (.linkFail c) s = .next t ∧ Effect s (.linkFail c) t := by
  by_cases hc : c ∈ [1#3, 3#3, 4#3]
  · cases hst : s.st.active with
    | true => exact ⟨_, exec_linkFail_of_active hc hst, .linkFailed c hc hst⟩
    | false => exact ⟨_, exec_linkFail_of_not_active hc hst, .unexpected⟩
  · exact ⟨_, exec_linkFail_of_no_cause hc s, effect_refuse _ s _⟩

/-- `rxHeader` before the last byte, in the terms of `headerByteTaken`. -/
theorem rxHeader_of_not_last {s : State} (h : s.hdrIdx.toNat + 1 < hdrLen s.txn) (b : Byte) :
    s.rxHeader b = { headerByteTaken s b with cmdErr := .ok } := by
  obtain ⟨-, hbyte⟩ | ⟨hle, -⟩ := rxHeader_cases s b
  · rw [hbyte, headerByteTaken, BitVec.ofNat_add, BitVec.ofNat_toNat, BitVec.setWidth_eq]
  · omega

theorem effect_rxHeader {s : State} (hst : s.st = .awaitingHeader) (b : Byte) :
    Effect s (.rxByte b) (s.rxHeader b) := by
  rcases Nat.lt_or_ge (s.hdrIdx.toNat + 1) (hdrLen s.txn) with hn | hn
  · rw [rxHeader_of_not_last hn]
    exact .headerByte b hst hn
  · rw [rxHeader_of_last hn]
    obtain ⟨-, hdone⟩ | ⟨-, ht, hdone⟩ | ⟨-, ht, hdone⟩ | ⟨-, ht, hdone⟩ :=
      headerDone_cases (headerByteTaken s b) (receivedHeader s b) b <;> rw [hdone]
    · exact .headerMismatch b hst hn
    · exact .writeEchoed b hst hn ht
    · exact .readHeader b hst hn ht
    · exact .identityHeader b hst hn ht

theorem effect_rxBody {s : State} (hst : s.st = .awaitingBody) (b : Byte) :
    Effect s (.rxByte b) (s.rxBody b) := by
  obtain ⟨ht, hbody⟩ | ⟨ht, hbody⟩ | ⟨ht, hbody⟩ := rxBody_cases s b <;> rw [hbody]
  · exact .identityBody b hst ht
  · exact .readBody b hst ht
  · exact .writeBody b hst ht

theorem effect_rxTrailer {s : State} (hst : s.st = .awaitingChecksum) (b : Byte) :
    Effect s (.rxByte b) (s.rxTrailer b) := by
  cases hidx : s.csIdx with
  | false =>
    rw [rxTrailer_of_first hidx]
    exact .trailerLatched b hst
  | true =>
    by_cases heq : halfOf b (lo8 s.rxCs) = s.chkCrc
    · rw [rxTrailer_of_eq hidx heq]
      obtain ⟨hcheck, hdone⟩ | ⟨c, hcheck, hdone⟩ :=
        runDecodeCheck_cases { s with rxCs := s.chkCrc } <;> rw [hdone]
      · exact .decoded b hst hcheck
      · exact .decodeFailed b c hst hcheck
    · rw [rxTrailer_of_ne hidx heq]
      exact .trailerMismatch b hst heq

theorem effect_rxByte (b : Byte) (s : State) :
    ∃ t, exec (.rxByte b) s = .next t ∧ Effect s (.rxByte b) t := by
  obtain ⟨hst, hexec⟩ | ⟨hst, hexec⟩ | ⟨hst, hexec⟩ | ⟨-, hexec⟩ := execRxByte_cases b s
  · exact ⟨_, hexec, effect_rxHeader hst b⟩
  · exact ⟨_, hexec, effect_rxBody hst b⟩
  · exact ⟨_, hexec, effect_rxTrailer hst b⟩
  · exact ⟨_, hexec, .unexpected⟩

theorem effect_hostQuery {i : Instr} (hi : hostQuery i = true) (s : State) :
    ∃ t, exec i s = .next t ∧ Effect s i t := by
  obtain ⟨t, hexec, hframe⟩ := exec_hostQuery hi s
  exact ⟨t, hexec, .hostOnly hframe⟩

theorem exists_effect (i : Instr) (s : State) : ∃ t, exec i s = .next t ∧ Effect s i t := by
  cases i with
  | reserved0 arg => exact ⟨_, exec_reserved0 arg s, effect_refuse _ s _⟩
  | reservedF arg => exact ⟨_, exec_reservedF arg s, effect_refuse _ s _⟩
  | clear => exact effect_clear s
  | txDone n => exact effect_txDone n s
  | rxByte b => exact effect_rxByte b s
  | linkFail c => exact effect_linkFail c s
  | start | txFrameDevinfo | txFramePwrOn | txFramePwrOff | txFramePwrState | txFrameRegs
  | txFrameBatt | txFrameWarn => exact effect_startWord rfl s
  | crcInit | crcFeed | crcVerify | decPstate | decField | decWarnRestart | decWarnNext
  | decDevcount | decDevrec => exact effect_hostQuery rfl s

theorem effect_of_exec {i : Instr} {s t : State} (h : exec i s = .next t) : Effect s i t := by
  obtain ⟨t', hexec, heffect⟩ := exists_effect i s
  cases h.symm.trans hexec
  exact heffect

/-- An invariant that the effects and RESET keep, and that does not speak of the inputs to come, is kept
by every step. -/
theorem step_keeps {P : State → Prop} (hdrop : ∀ s, P s → P s.dropInput)
    (hreset : ∀ s, P s → P s.applyReset)
    (heffect : ∀ {i s t}, Effect s i t → P s → P t) {s t : State} (hs : P s)
    (hstep : step s = .next t) : P t := by
  obtain ⟨-, hnext⟩ | ⟨_, -, hnext⟩ | ⟨_, _, i, -, -, hnext⟩ | ⟨_, _, _, -, -, hnext⟩ :=
    step_cases s <;> rw [hnext] at hstep
  case inr.inr.inl => exact heffect (effect_of_exec hstep) (hdrop s hs)
  all_goals cases hstep
  case inl => exact hs
  case inr.inl => exact hreset _ (hdrop s hs)
  case inr.inr.inr => exact heffect (effect_refuse .crcInit _ _) (hdrop s hs)

/-! ### What every effect keeps -/

theorem tlvWalk_frame (s : State) (b : Byte) :
    s.tlvWalk b = { s with
      tlvPh := (s.tlvWalk b).tlvPh, valRem := (s.tlvWalk b).valRem
      objRem := (s.tlvWalk b).objRem, st := (s.tlvWalk b).st } := by
  obtain ⟨-, hwalk⟩ | ⟨-, -, hwalk⟩ | ⟨-, -, hwalk⟩ | ⟨-, -, hwalk⟩ | ⟨-, -, hwalk⟩ :=
    tlvWalk_cases s b <;> rw [hwalk] <;> rfl

/-- A byte of an identity body changes the registers of `accept`, those of the walk, and `cmd_err`. -/
theorem rxIdentityBody_frame (s : State) (b : Byte) :
    s.rxIdentityBody b = { s.acceptByte b with
      tlvPh := (s.rxIdentityBody b).tlvPh, valRem := (s.rxIdentityBody b).valRem
      objRem := (s.rxIdentityBody b).objRem, st := (s.rxIdentityBody b).st, cmdErr := .ok } :=
  congrArg (fun u : State => { u with cmdErr := .ok }) (tlvWalk_frame (s.acceptByte b) b)

theorem Effect.cfg_eq {i : Instr} {s t : State} (h : Effect s i t) : t.cfg = s.cfg := by
  cases h with
  | hostOnly h => rw [h]
  | identityBody b => rw [rxIdentityBody_frame]; rfl
  | _ => rfl

/-- Settles O44: RESET carries the configuration over, and no word has a part in it. -/
theorem noStepWritesTheConfiguration : Obligations.NoStepWritesTheConfiguration := fun s _ =>
  step_keeps (P := fun u => u.cfg = s.cfg) (fun _ h => h) (fun _ h => h)
    (fun heffect h => heffect.cfg_eq.trans h) rfl

/-- Outside START the request of the transaction is kept (42_assembler.md R99). -/
theorem Effect.request_eq {i : Instr} {s t : State} (h : Effect s i t) (hi : startWord i = false) :
    t.txn = s.txn ∧ t.txBuf = s.txBuf ∧ t.txLen = s.txLen := by
  cases h with
  | hostOnly h => rw [h]; exact ⟨rfl, rfl, rfl⟩
  | identityBody b => rw [rxIdentityBody_frame]; exact ⟨rfl, rfl, rfl⟩
  | started x hstart => cases hi.symm.trans hstart
  | _ => exact ⟨rfl, rfl, rfl⟩

/-- Settles O49: the frame of the host's queries. -/
theorem hostQueriesLeaveTheTransactionAlone : Obligations.HostQueriesLeaveTheTransactionAlone := by
  intro i s t hi hexec
  obtain ⟨t', hexec', hframe⟩ := exec_hostQuery hi s
  cases hexec.symm.trans hexec'
  exact hframe

/-! ### The moves of the FSM (43_parser.md R115) -/

theorem stateAfterCount_cases (b : Byte) :
    b = 0#8 ∧ stateAfterCount b = .awaitingChecksum ∨ b ≠ 0#8 ∧ stateAfterCount b = .awaitingBody := by
  by_cases h : b = 0#8 <;> simp [stateAfterCount, h]

theorem objectDone_st {s : State} (hst : s.st = .awaitingBody) :
    s.objectDone.st = .awaitingBody ∨ s.objectDone.st = .awaitingChecksum := by
  rw [objectDone_eq hst]
  dsimp only
  split
  · exact .inr rfl
  · exact .inl rfl

theorem rxReadBody_st {s : State} (hst : s.st = .awaitingBody) (b : Byte) :
    (s.rxReadBody b).st = .awaitingBody ∨ (s.rxReadBody b).st = .awaitingChecksum := by
  rw [rxReadBody_eq hst]
  dsimp only
  split
  · exact .inr rfl
  · exact .inl rfl

theorem rxIdentityBody_st {s : State} (hst : s.st = .awaitingBody) (b : Byte) :
    (s.rxIdentityBody b).st = .awaitingBody ∨ (s.rxIdentityBody b).st = .awaitingChecksum := by
  have hwalk : ∀ u : State, u.st = .awaitingBody →
      (u.tlvWalk b).st = .awaitingBody ∨ (u.tlvWalk b).st = .awaitingChecksum := by
    intro u hu
    obtain ⟨-, h⟩ | ⟨-, -, h⟩ | ⟨-, -, h⟩ | ⟨-, -, h⟩ | ⟨-, -, h⟩ := tlvWalk_cases u b <;> rw [h]
    case inr.inr.inl => exact objectDone_st hu
    case inr.inr.inr.inr => exact objectDone_st (s := { u with valRem := u.valRem - 1#8 }) hu
    all_goals exact .inl hu
  exact hwalk (s.acceptByte b) hst

/-- The rows of the transition table (43_parser.md R115), and the words that move nothing. -/
inductive Move (s t : State) : Instr → Prop
  | stay {i : Instr} (h : t.st = s.st) : Move s t i
  | start {i : Instr} (hi : startWord i = true) (hs : s.st.active = false) (ht : t.st = .sent) :
      Move s t i
  | clear (hs : s.st.active = false) (ht : t.st = .idle) : Move s t .clear
  | txDone (n : BitVec 4) (hs : s.st = .sent) (ht : t.st = .awaitingHeader ∨ t.st = .failed) :
      Move s t (.txDone n)
  | header (b : Byte) (hs : s.st = .awaitingHeader)
      (ht : t.st = .awaitingBody ∨ t.st = .awaitingChecksum ∨ t.st = .complete ∨ t.st = .failed) :
      Move s t (.rxByte b)
  | body (b : Byte) (hs : s.st = .awaitingBody) (ht : t.st = .awaitingChecksum) :
      Move s t (.rxByte b)
  | trailer (b : Byte) (hs : s.st = .awaitingChecksum) (ht : t.st = .complete ∨ t.st = .failed) :
      Move s t (.rxByte b)
  | linkFail (c : BitVec 3) (hs : s.st.active = true) (ht : t.st = .failed) : Move s t (.linkFail c)

/-- The last header byte of a response with a trailer leads to its body or, without one, to its trailer. -/
theorem move_stateAfterCount {s t : State} (b : Byte) (hs : s.st = .awaitingHeader)
    (ht : t.st = stateAfterCount b) : Move s t (.rxByte b) := by
  obtain ⟨-, hb⟩ | ⟨-, hb⟩ := stateAfterCount_cases b
  · exact .header b hs (.inr (.inl (ht.trans hb)))
  · exact .header b hs (.inl (ht.trans hb))

/-- A body byte leaves the stage or ends it. -/
theorem move_body {s t : State} (b : Byte) (hs : s.st = .awaitingBody)
    (ht : t.st = .awaitingBody ∨ t.st = .awaitingChecksum) : Move s t (.rxByte b) := by
  obtain ht | ht := ht
  · exact .stay (ht.trans hs.symm)
  · exact .body b hs ht

theorem Effect.move {i : Instr} {s t : State} (h : Effect s i t) : Move s t i := by
  cases h with
  | hostOnly h => exact .stay (by rw [h])
  | unexpected => exact .stay rfl
  | cleared hst => exact .clear hst rfl
  | started x hi hst => exact .start hi hst rfl
  | sent n hst => exact .txDone n hst (.inl rfl)
  | shortWrite n hst => exact .txDone n hst (.inr rfl)
  | linkFailed c hc hst => exact .linkFail c hst rfl
  | headerByte => exact .stay rfl
  | headerMismatch b hst => exact .header b hst (.inr (.inr (.inr rfl)))
  | writeEchoed b hst => exact .header b hst (.inr (.inr (.inl rfl)))
  | readHeader b hst => exact move_stateAfterCount b hst rfl
  | identityHeader b hst => exact move_stateAfterCount b hst rfl
  | readBody b hst => exact move_body b hst (rxReadBody_st hst b)
  | identityBody b hst => exact move_body b hst (rxIdentityBody_st hst b)
  | writeBody => exact .stay rfl
  | trailerLatched => exact .stay rfl
  | trailerMismatch b hst => exact .trailer b hst (.inr rfl)
  | decoded b hst => exact .trailer b hst (.inl rfl)
  | decodeFailed b c hst => exact .trailer b hst (.inr rfl)

/-- Settles O47: each effect makes one of the table's moves, or none. -/
theorem fsmMovesAsTheTransitionTableSays : Obligations.FsmMovesAsTheTransitionTableSays := by
  intro i s t hexec
  cases (effect_of_exec hexec).move with
  | stay h => exact .inl h
  | start hi hs ht => exact .inr (.inl ⟨hi, hs, ht⟩)
  | clear hs ht => exact .inr (.inr (.inl ⟨rfl, hs, ht⟩))
  | txDone n hs ht => exact .inr (.inr (.inr (.inl ⟨n, rfl, hs, ht⟩)))
  | header b hs ht => exact .inr (.inr (.inr (.inr (.inl ⟨b, rfl, hs, ht⟩))))
  | body b hs ht => exact .inr (.inr (.inr (.inr (.inr (.inl ⟨b, rfl, hs, ht⟩)))))
  | trailer b hs ht => exact .inr (.inr (.inr (.inr (.inr (.inr (.inl ⟨b, rfl, hs, ht⟩))))))
  | linkFail c hs ht => exact .inr (.inr (.inr (.inr (.inr (.inr (.inr ⟨c, rfl, hs, ht⟩))))))

/-! ### What is emitted (60_exceptions.md R152) -/

/-- What a word emits: nothing, `close` on entry to a terminal state, or the request frame of a START. -/
inductive Emission (s t : State) (i : Instr) : Prop
  | silent (h : t.events = s.events) (hst : t.st.terminal = true → s.st.terminal = true)
  | close (h : t.events = s.events ++ [.close]) (hs : s.st.active = true)
      (ht : t.st.terminal = true)
  | frame (h : t.events = s.events ++ [.txFrame t.txFrame]) (hi : startWord i = true)
      (hs : s.st.active = false) (ht : t.st = .sent)

theorem active_of_eq {f g : Fsm} (h : f = g) (hg : g.active = true) : f.active = true := h ▸ hg

theorem not_terminal_stateAfterCount (b : Byte) : (stateAfterCount b).terminal = false := by
  obtain ⟨-, hb⟩ | ⟨-, hb⟩ := stateAfterCount_cases b <;> rw [hb] <;> rfl

theorem not_terminal_of_body {f : Fsm} (h : f = .awaitingBody ∨ f = .awaitingChecksum) :
    f.terminal = false := by
  obtain rfl | rfl := h <;> rfl

/-- Nothing is emitted where no terminal state is entered. -/
theorem emission_silent {s t : State} {i : Instr} (h : t.events = s.events)
    (ht : t.st.terminal = false) : Emission s t i :=
  .silent h fun hterm => by cases ht.symm.trans hterm

theorem Effect.emission {i : Instr} {s t : State} (h : Effect s i t) : Emission s t i := by
  cases h with
  | hostOnly h => exact .silent (by rw [h]) (by rw [h]; exact id)
  | unexpected => exact .silent rfl id
  | cleared => exact emission_silent rfl rfl
  | started x hi hst => exact .frame rfl hi hst rfl
  | sent => exact emission_silent rfl rfl
  | linkFailed c hc hst => exact .close rfl hst rfl
  | headerByte => exact .silent rfl id
  | writeBody => exact .silent rfl id
  | trailerLatched => exact .silent rfl id
  | readHeader b | identityHeader b => exact emission_silent rfl (not_terminal_stateAfterCount b)
  | readBody b hst => exact emission_silent rfl (not_terminal_of_body (rxReadBody_st hst b))
  | identityBody b hst =>
    refine emission_silent ?_ (not_terminal_of_body (rxIdentityBody_st hst b))
    rw [rxIdentityBody_frame]
    rfl
  | shortWrite n hst => exact .close rfl (active_of_eq hst rfl) rfl
  | headerMismatch b hst | writeEchoed b hst | trailerMismatch b hst | decoded b hst
  | decodeFailed b c hst => exact .close rfl (active_of_eq hst rfl) rfl

/-- Settles O48: each effect has its one emission. -/
theorem eventsComeOnlyFromStartAndTerminalEntry :
    Obligations.EventsComeOnlyFromStartAndTerminalEntry := by
  intro i s t hexec
  cases (effect_of_exec hexec).emission with
  | silent h hst => exact .inl ⟨h, hst⟩
  | close h hs ht => exact .inr (.inl ⟨h, hs, ht⟩)
  | frame h hi hs ht => exact .inr (.inr ⟨h, hi, hs, ht⟩)

theorem Effect.events_eq {i : Instr} {s t : State} (h : Effect s i t) :
    ∃ outs : List Event, t.events = s.events ++ outs ∧ outs.length ≤ 2 := by
  cases h.emission with
  | silent h => exact ⟨[], by rw [h, List.append_nil], by simp⟩
  | close h => exact ⟨[.close], h, by simp⟩
  | frame h => exact ⟨[.txFrame t.txFrame], h, by simp⟩

/-- Settles O55: without input and on RESET nothing is emitted, and a word has an effect. -/
theorem everyStepHasAResult : Obligations.EveryStepHasAResult := by
  intro s
  obtain ⟨-, hnext⟩ | ⟨_, -, hnext⟩ | ⟨_, _, i, -, -, hnext⟩ | ⟨_, _, _, -, -, hnext⟩ := step_cases s
  case inr.inr.inl =>
    obtain ⟨t, hexec, heffect⟩ := exists_effect i s.dropInput
    obtain ⟨outs, hevents, hlen⟩ := heffect.events_eq
    exact ⟨t, outs, hnext.trans hexec, hevents, hlen⟩
  all_goals exact ⟨_, [], hnext, (List.append_nil _).symm, by simp⟩

/-! ### What a failure records (60_exceptions.md R146, R148) -/

theorem objectFault_mem {m : Memory} {o : TlvObject} {c : BitVec 3} (h : objectFault m o = some c) :
    c = causeDevcountLen ∨ c = causeMissingKey := by
  unfold objectFault at h
  split at h <;> split at h <;> cases h
  · exact .inl rfl
  · exact .inr rfl

/-- The DECODE causes of R146. -/
theorem decodeCheck_mem {s : State} {c : BitVec 3} (h : decodeCheck s = some c) :
    c ∈ [1#3, 2#3, 3#3, 4#3] := by
  unfold decodeCheck at h
  split at h
  · cases h
    decide
  · split at h
    case h_5 =>
      obtain ⟨o, -, ho⟩ := List.exists_of_findSome?_eq_some h
      obtain rfl | rfl := objectFault_mem ho <;> decide
    case h_6 | h_7 => cases h
    all_goals
      split at h
      · cases h
      · cases h
        decide

/-- The rows of the failure table that a transaction in `s` can meet (60_exceptions.md R146). -/
def FailureRow (i : Instr) (s t : State) : Prop :=
  (∃ c ∈ [1#3, 3#3, 4#3], i = .linkFail c ∧ s.st.active = true ∧ t.errKind = .transport ∧
      t.errCause = c) ∨
   (∃ n : BitVec 4, i = .txDone n ∧ n.toNat < s.txLen.toNat ∧ s.st = .sent ∧
      t.errKind = .transport ∧ t.errCause = 2#3) ∨
   (∃ b, i = .rxByte b ∧ s.st = .awaitingHeader ∧ t.errKind = .protocolMismatch ∧
      t.errCause = 0#3) ∨
   (∃ b, i = .rxByte b ∧ s.st = .awaitingChecksum ∧ t.errKind = .checksum ∧ t.rxCs ≠ t.chkCrc ∧
      t.errCause = 0#3) ∨
   (∃ b, i = .rxByte b ∧ s.st = .awaitingChecksum ∧ t.errKind = .decode ∧ t.rxCs = t.chkCrc ∧
      t.errCause ∈ [1#3, 2#3, 3#3, 4#3])

/-- What the failure entry leaves of any state with `s`'s transaction. -/
def FailureRecorded (i : Instr) (s t : State) : Prop :=
  t.errState = s.st ∧ t.cmdErr = .ok ∧ t.events = s.events ++ [.close] ∧
    t.txn = s.txn ∧ t.txBuf = s.txBuf ∧ t.txLen = s.txLen ∧ FailureRow i s t

/-- An effect that enters Failed is one of the five failures. -/
theorem Effect.failureRecorded {i : Instr} {s t : State} (h : Effect s i t) (hs : s.st ≠ .failed)
    (ht : t.st = .failed) : FailureRecorded i s t := by
  cases h with
  | hostOnly h =>
    rw [h] at ht
    exact absurd ht hs
  | unexpected | headerByte | writeBody | trailerLatched => exact absurd ht hs
  | cleared | started | sent | writeEchoed | decoded => cases ht
  | readHeader b | identityHeader b =>
    obtain ⟨-, hb⟩ | ⟨-, hb⟩ := stateAfterCount_cases b <;> cases hb.symm.trans ht
  | readBody b hst => obtain hb | hb := rxReadBody_st hst b <;> cases hb.symm.trans ht
  | identityBody b hst => obtain hb | hb := rxIdentityBody_st hst b <;> cases hb.symm.trans ht
  | linkFailed c hc hst => exact ⟨rfl, rfl, rfl, rfl, rfl, rfl, .inl ⟨c, hc, rfl, hst, rfl, rfl⟩⟩
  | shortWrite n hst hn =>
    exact ⟨rfl, rfl, rfl, rfl, rfl, rfl, .inr (.inl ⟨n, rfl, hn, hst, rfl, rfl⟩)⟩
  | headerMismatch b hst =>
    exact ⟨rfl, rfl, rfl, rfl, rfl, rfl, .inr (.inr (.inl ⟨b, rfl, hst, rfl, rfl⟩))⟩
  | trailerMismatch b hst hne =>
    exact ⟨rfl, rfl, rfl, rfl, rfl, rfl, .inr (.inr (.inr (.inl ⟨b, rfl, hst, rfl, hne, rfl⟩)))⟩
  | decodeFailed b c hst hcheck =>
    exact ⟨rfl, rfl, rfl, rfl, rfl, rfl,
      .inr (.inr (.inr (.inr ⟨b, rfl, hst, rfl, rfl, decodeCheck_mem hcheck⟩)))⟩

/-- Settles O45: the effects that enter Failed are the failure entry, each with its own row. -/
theorem everyFailureIsRecordedAndClosed : Obligations.EveryFailureIsRecordedAndClosed :=
  fun _ _ _ hexec => (effect_of_exec hexec).failureRecorded

end Sys2Proof.Proofs.Effects

/-! PROOF. The invariants of the RX buffer, of the checksum and of the events (10_state.md R45): what a word
does to the registers of `accept`, and what an emission does to the log. -/

namespace Sys2Proof.Proofs.Invariants

open Machine Statement Proofs.Checksum Proofs.Assembler Proofs.Parser
open Proofs.Exceptions Proofs.Effects

/-! ### The registers of `accept` (R104)

`withAccepted s t` is `s` with these registers as `t` holds them. -/

/-- A word leaves the registers of `accept`, sets them for a new transaction, or takes one byte. -/
inductive BufferEffect (s t : State) : Prop
  | kept (h : withAccepted s t = s)
  | cleared (h : withAccepted s t =
      { s with rxLen := 0#17, chkCrc := crcInitValue, ovf := false })
  | taken (b : Byte) (h : withAccepted s t = s.acceptByte b)

theorem bufferEffect_of_effect {i : Instr} {s t : State} (h : Effect s i t) : BufferEffect s t := by
  cases h with
  | hostOnly h => rw [h]; exact .kept rfl
  | cleared | started => exact .cleared rfl
  | headerByte b | headerMismatch b | writeEchoed b | readHeader b | identityHeader b | readBody b
  | writeBody b => exact .taken b rfl
  | identityBody b => rw [rxIdentityBody_frame]; exact .taken b rfl
  | _ => exact .kept rfl

/-- The registers of `accept` are read off an equation of `withAccepted`. -/
theorem withAccepted_eq {s t u : State} (h : withAccepted s t = u) :
    t.rxBuf = u.rxBuf ∧ t.ovf = u.ovf ∧ t.rxLen = u.rxLen ∧ t.chkCrc = u.chkCrc :=
  h ▸ ⟨rfl, rfl, rfl, rfl⟩

/-! ### The memory (10_state.md R24) -/

theorem memoryInv_acceptByte {s : State} (h : MemoryInv s) (b : Byte) :
    MemoryInv (s.acceptByte b) := by
  rcases Nat.lt_or_ge s.rxLen.toNat s.cfg.rxbufCap with hroom | hfull
  · obtain ⟨-, hbuf⟩ := acceptByte_of_room b hroom
    constructor
    · rw [hbuf]
      exact Memory.write_wf _ b h.canonical
    · intro c hc
      rw [hbuf] at hc
      obtain hc | hc := Memory.mem_write hc
      · exact h.inside c hc
      · exact lt_of_eq_of_lt hc hroom
  · obtain ⟨-, hbuf⟩ := acceptByte_of_full b hfull
    exact ⟨hbuf ▸ h.canonical, hbuf ▸ h.inside⟩

theorem memoryInv_of_eq {s t : State} (hcfg : t.cfg = s.cfg) (hbuf : t.rxBuf = s.rxBuf)
    (h : MemoryInv s) : MemoryInv t :=
  ⟨hbuf ▸ h.canonical, hbuf ▸ hcfg ▸ h.inside⟩

theorem memoryInv_of_effect {i : Instr} {s t : State} (heffect : Effect s i t) (h : MemoryInv s) :
    MemoryInv t := by
  cases bufferEffect_of_effect heffect with
  | kept ht => exact memoryInv_of_eq heffect.cfg_eq (withAccepted_eq ht).1 h
  | cleared ht => exact memoryInv_of_eq heffect.cfg_eq (withAccepted_eq ht).1 h
  | taken b ht =>
    exact memoryInv_of_eq (s := s.acceptByte b) heffect.cfg_eq (withAccepted_eq ht).1
      (memoryInv_acceptByte h b)

/-- RESET empties the buffer. -/
theorem memoryInv_applyReset (s : State) : MemoryInv s.applyReset :=
  ⟨rfl, fun _ hc => by cases hc⟩

/-- Settles O53: only a byte taken writes the memory, inside the capacity. -/
theorem stepKeepsTheMemoryInvariant : Obligations.StepKeepsTheMemoryInvariant := fun _ _ =>
  step_keeps (fun _ h => ⟨h.canonical, h.inside⟩) (fun s _ => memoryInv_applyReset s)
    memoryInv_of_effect

/-! ### The checksum (10_state.md R23) -/

theorem rxbufCap_bounds (c : Config) : 258 ≤ c.rxbufCap ∧ c.rxbufCap ≤ 65543 := by
  have hwf := c.wf
  simp only [ConfigData.wellFormed, Bool.and_eq_true, decide_eq_true_eq] at hwf
  obtain ⟨⟨⟨⟨hmin, hmax⟩, -⟩, -⟩, -⟩ := hwf
  exact ⟨hmin, hmax⟩

/-- A count below the capacity's bound has room for one more. -/
theorem rxLen_succ_toNat {s : State} (h : s.rxLen.toNat ≤ 65543) :
    (s.rxLen + 1#17).toNat = s.rxLen.toNat + 1 := by
  rw [BitVec.toNat_add]
  exact Nat.mod_eq_of_lt (show s.rxLen.toNat + 1 < 2 ^ 17 by omega)

/-- A byte that was stored is the last of the bytes received. -/
theorem received_acceptByte {s : State} (b : Byte) (hwf : s.rxBuf.wf = true)
    (hroom : s.rxLen.toNat < s.cfg.rxbufCap) :
    (s.acceptByte b).received = s.received ++ [b] := by
  obtain ⟨-, hbuf⟩ := acceptByte_of_room b hroom
  obtain ⟨-, hcap⟩ := rxbufCap_bounds s.cfg
  rw [State.received, hbuf, State.acceptByte_rxLen, rxLen_succ_toNat (by omega), Memory.bytes_snoc,
    Memory.bytes_write_after _ _ (by omega), Nat.zero_add, Memory.read_write_self hwf,
    State.received]

theorem crcInv_acceptByte {s : State} (h : CrcInv s) (b : Byte) : CrcInv (s.acceptByte b) := by
  rcases Nat.lt_or_ge s.rxLen.toNat s.cfg.rxbufCap with hroom | hfull
  · obtain ⟨hovf, hbuf⟩ := acceptByte_of_room b hroom
    obtain ⟨-, hcap⟩ := rxbufCap_bounds s.cfg
    refine ⟨?_, fun _ => ?_, fun hno => ?_⟩
    · rw [hbuf]
      exact Memory.write_wf _ b h.canonical
    · rw [State.acceptByte_rxLen, rxLen_succ_toNat (by omega)]
      exact hroom
    · rw [received_acceptByte b h.canonical hroom, crc16_snoc, ← h.accumulated (hovf ▸ hno),
        State.acceptByte_chkCrc]
  · obtain ⟨hovf, hbuf⟩ := acceptByte_of_full b hfull
    have habsurd : (s.acceptByte b).ovf ≠ false := by rw [hovf]; decide
    exact ⟨hbuf ▸ h.canonical, fun hno => absurd hno habsurd, fun hno => absurd hno habsurd⟩

theorem crcInv_of_withAccepted_eq {s t u : State} (ht : withAccepted s t = u)
    (hcfg : t.cfg = u.cfg) (h : CrcInv u) : CrcInv t := by
  obtain ⟨hbuf, hovf, hlen, hcrc⟩ := withAccepted_eq ht
  have hreceived : t.received = u.received := by rw [State.received, hbuf, hlen, State.received]
  constructor
  · rw [hbuf]; exact h.canonical
  · rw [hovf, hlen, hcfg]; exact h.stored
  · rw [hovf, hcrc, hreceived]; exact h.accumulated

/-- Before the first byte the accumulator holds the checksum of no byte. -/
theorem crcInv_of_no_byte {s : State} (hwf : s.rxBuf.wf = true) (hlen : s.rxLen = 0#17)
    (hcrc : s.chkCrc = crcInitValue) : CrcInv s := by
  have hlen0 : s.rxLen.toNat = 0 := by rw [hlen]; rfl
  refine ⟨hwf, fun _ => by omega, fun _ => ?_⟩
  rw [hcrc, State.received, hlen0, Memory.bytes_zero, crc16_nil]

theorem crcInv_of_effect {i : Instr} {s t : State} (heffect : Effect s i t) (h : CrcInv s) :
    CrcInv t := by
  cases bufferEffect_of_effect heffect with
  | kept ht => exact crcInv_of_withAccepted_eq ht heffect.cfg_eq h
  | cleared ht =>
    exact crcInv_of_withAccepted_eq ht heffect.cfg_eq (crcInv_of_no_byte h.canonical rfl rfl)
  | taken b ht => exact crcInv_of_withAccepted_eq ht heffect.cfg_eq (crcInv_acceptByte h b)

/-- Settles O56: a byte taken extends the bytes received and steps the accumulator, where it fits; a new
transaction has received none. -/
theorem stepKeepsTheChecksumInvariant : Obligations.StepKeepsTheChecksumInvariant := fun _ _ =>
  step_keeps (fun _ h => ⟨h.canonical, h.stored, h.accumulated⟩)
    (fun _ _ => crcInv_of_no_byte rfl rfl rfl) crcInv_of_effect

/-! ### The events (43_parser.md R116) -/

theorem closesPaired_append_txFrame (bs : List Byte) :
    ∀ {es : List Event}, closesPaired es = true → closesPaired (es ++ [.txFrame bs]) = true
  | [], _ => rfl
  | [.txFrame _], _ => rfl
  | .txFrame _ :: .close :: es, h => closesPaired_append_txFrame bs (es := es) h
  | .txFrame _ :: .txFrame f :: es, h =>
    closesPaired_append_txFrame bs (es := .txFrame f :: es) h

/-- A `close` is paired when it ends the transaction offered last. -/
theorem closesPaired_append_close {bs : List Byte} :
    ∀ {es : List Event}, closesPaired es = true → es.getLast? = some (.txFrame bs) →
      closesPaired (es ++ [.close]) = true
  | [], _, hlast => by cases hlast
  | [.txFrame _], _, _ => rfl
  | [.txFrame _, .close], _, hlast => by cases hlast
  | .txFrame _ :: .close :: e :: es, h, hlast =>
    closesPaired_append_close (es := e :: es) h (by simpa using hlast)
  | .txFrame _ :: .txFrame f :: es, h, hlast =>
    closesPaired_append_close (es := .txFrame f :: es) h (by simpa using hlast)

/-- A word other than START leaves Idle alone, and makes no transaction active. -/
theorem move_of_not_start {s t : State} {i : Instr} (hmove : Move s t i)
    (hi : startWord i = false) :
    (t.st ≠ .idle → s.st ≠ .idle) ∧ (t.st.active = true → s.st.active = true) := by
  cases hmove with
  | stay h => rw [h]; exact ⟨id, id⟩
  | start h => cases hi.symm.trans h
  | clear hs ht => simp [ht, Fsm.active]
  | txDone n hs | header b hs | body b hs | trailer b hs => simp [hs, Fsm.active]
  | linkFail c hs =>
    refine ⟨fun _ hidle => ?_, fun _ => hs⟩
    rw [hidle] at hs
    cases hs

theorem txFrame_of_request_eq {s t : State}
    (h : t.txn = s.txn ∧ t.txBuf = s.txBuf ∧ t.txLen = s.txLen) :
    t.txFrame = s.txFrame ∧ requestFrame t.txn = requestFrame s.txn := by
  obtain ⟨htxn, hbuf, hlen⟩ := h
  rw [State.txFrame, State.txFrame, htxn, hbuf, hlen]
  exact ⟨rfl, rfl⟩

/-- A START offers the frame it has assembled. -/
theorem eventInv_started {s : State} (h : EventInv s) (x : Txn) :
    EventInv (s.assemble x).emitFrame := by
  have hframe : (s.assemble x).emitFrame.txFrame = requestFrame x := assemble_txFrame s x
  have hevents : (s.assemble x).emitFrame.events = s.events ++ [.txFrame (requestFrame x)] := by
    rw [State.emitFrame_events, assemble_txFrame]
    rfl
  refine ⟨?_, fun bs hbs => ?_, fun _ => hframe, fun _ => ?_⟩
  · rw [hevents]
    exact closesPaired_append_txFrame _ h.paired
  · rw [hevents] at hbs
    obtain hbs | hbs := List.mem_append.1 hbs
    · exact h.frames bs hbs
    · exact ⟨x, by simpa using hbs⟩
  · rw [hevents, List.getLast?_concat]
    rfl

/-- What a word other than START emits keeps the log: nothing, or the `close` of the transaction offered
last. -/
theorem eventInv_of_not_start {s t : State} {i : Instr} (heffect : Effect s i t)
    (hi : startWord i = false) (h : EventInv s) : EventInv t := by
  obtain ⟨hframe, hrequest⟩ := txFrame_of_request_eq (heffect.request_eq hi)
  obtain ⟨hidle, hactive⟩ := move_of_not_start heffect.move hi
  have hassembled : t.st ≠ .idle → t.txFrame = requestFrame t.txn := fun ht => by
    rw [hframe, hrequest]
    exact h.assembled (hidle ht)
  cases heffect.emission with
  | silent hevents =>
    refine ⟨hevents ▸ h.paired, hevents ▸ h.frames, hassembled, fun ht => ?_⟩
    rw [hevents, hrequest]
    exact h.offered (hactive ht)
  | close hevents hs hterm =>
    refine ⟨?_, fun bs hbs => ?_, hassembled, fun ht => ?_⟩
    · rw [hevents]
      exact closesPaired_append_close h.paired (h.offered hs)
    · rw [hevents] at hbs
      exact h.frames bs (by simpa using hbs)
    · cases (not_active_of_terminal hterm).symm.trans ht
  | frame _ hstart => cases hi.symm.trans hstart

theorem eventInv_of_effect {i : Instr} {s t : State} (heffect : Effect s i t) (h : EventInv s) :
    EventInv t := by
  cases hi : startWord i with
  | false => exact eventInv_of_not_start heffect hi h
  | true =>
    cases heffect with
    | started x => exact eventInv_started h x
    | hostOnly hframe => exact eventInv_of_not_start (i := .crcInit) (.hostOnly hframe) rfl h
    | unexpected => exact eventInv_of_not_start (i := .crcInit) .unexpected rfl h
    | _ => cases hi

/-- RESET leaves the log as it is, in Idle. -/
theorem eventInv_applyReset {s : State} (h : EventInv s) : EventInv s.applyReset :=
  ⟨h.paired, h.frames, fun hst => absurd rfl hst, fun hst => by cases hst⟩

/-- Settles O57: START adds a frame, entry to a terminal state the `close` of the frame before it, and
nothing else is emitted. -/
theorem stepKeepsTheEventInvariant : Obligations.StepKeepsTheEventInvariant := fun _ _ =>
  step_keeps (P := EventInv) (fun _ h => ⟨h.paired, h.frames, h.assembled, h.offered⟩)
    (fun _ => eventInv_applyReset) eventInv_of_effect

end Sys2Proof.Proofs.Invariants

/-! PROOF. The control and length invariants (10_state.md R45 c to f), by the state a word leads to: what each
state asks of the registers, and that the counters of a stage meet it. -/

namespace Sys2Proof.Proofs.StateInvariant

open Machine Statement Proofs.Parser Proofs.RegisterDecoder Proofs.Exceptions Proofs.Effects
open Proofs.Invariants

/-! ### What each state asks -/

/-- The part of the length invariant that every state keeps. -/
structure Counted (s : State) : Prop where
  bound : s.rxLen.toNat ≤ 65543
  overflow : s.ovf = true ↔ s.cfg.rxbufCap < s.rxLen.toNat

theorem counted_of_stateInv {s : State} (h : StateInv s) : Counted s :=
  ⟨h.length.bound, h.length.overflow⟩

theorem counted_of_no_byte {s : State} (hlen : s.rxLen = 0#17) (hovf : s.ovf = false) :
    Counted s := by
  constructor <;> simp [hlen, hovf]

theorem errKind_eq_none {s : State} {f : Fsm} (h : StateInv s) (hst : s.st = f)
    (hf : f ≠ .failed) : s.errKind = .none :=
  not_not.1 (mt h.control.record.2 (hst ▸ hf))

theorem stateInv_of_failed {t : State} (hst : t.st = .failed) (hk : t.errKind ≠ .none)
    (hc : Counted t) : StateInv t := by
  obtain ⟨hbound, hover⟩ := hc
  constructor <;> constructor <;> simp [hst, hk, hbound, hover]

theorem stateInv_of_complete {t : State} (hst : t.st = .complete) (hk : t.errKind = .none)
    (hc : Counted t) (hcheck : isWrite t.txn = false → decodeCheck t = none) : StateInv t := by
  obtain ⟨hbound, hover⟩ := hc
  constructor <;> constructor <;> simp +contextual [hst, hk, hbound, hover, hcheck]

theorem stateInv_of_idle {t : State} (hst : t.st = .idle) (hk : t.errKind = .none)
    (hc : Counted t) : StateInv t := by
  obtain ⟨hbound, hover⟩ := hc
  constructor <;> constructor <;> simp [hst, hk, hbound, hover]

theorem stateInv_of_sent {t : State} (hst : t.st = .sent) (hk : t.errKind = .none) (hc : Counted t)
    (hlen : t.rxLen = 0 ∧ t.hdrIdx = 0) : StateInv t := by
  have hover := hc.overflow
  constructor <;> constructor <;> simp [hst, hk, hover, hlen]

theorem stateInv_of_awaitingHeader {t : State} (hst : t.st = .awaitingHeader)
    (hk : t.errKind = .none) (hc : Counted t)
    (hlen : t.rxLen.toNat = t.hdrIdx.toNat ∧ t.hdrIdx.toNat < hdrLen t.txn) : StateInv t := by
  constructor
  · constructor <;> simp [hst, hk]
  · exact ⟨hc.bound, hc.overflow, by simp [hst], fun _ => hlen, by simp [hst], by simp [hst]⟩

theorem stateInv_of_awaitingChecksum {t : State} (hst : t.st = .awaitingChecksum)
    (hk : t.errKind = .none) (hc : Counted t) (ht : isWrite t.txn = false) : StateInv t := by
  obtain ⟨hbound, hover⟩ := hc
  constructor <;> constructor <;> simp [hst, hk, hbound, hover, ht]

theorem stateInv_of_readBody {t : State} (hst : t.st = .awaitingBody) (hk : t.errKind = .none)
    (hc : Counted t) (ht : isRead t.txn = true) (hrem : t.bodyRem ≠ 0#8)
    (hlen : t.rxLen.toNat + t.bodyRem.toNat = 3 + t.decl.toNat) : StateInv t := by
  obtain ⟨hbound, hover⟩ := hc
  obtain ⟨hwrite, hid⟩ := isWrite_eq_false_and_ne_devinfo_of_isRead ht
  constructor <;> constructor <;> simp [hst, hk, hbound, hover, ht, hwrite, hid, hrem, hlen]

/-- The registers of an identity body under way. -/
structure IdentityBody (t : State) : Prop where
  st : t.st = .awaitingBody
  txn : t.txn = .devinfo
  record : t.errKind = .none
  counted : Counted t
  left : t.objRem ≠ 0#8
  declared : t.objRem.toNat ≤ t.decl.toNat

theorem stateInv_of_identityBody {t : State} (h : IdentityBody t)
    (hval : t.tlvPh = .val → t.valRem ≠ 0#8) (hbudget : t.tlvBudget) : StateInv t := by
  obtain ⟨hst, ht, hk, ⟨hbound, hover⟩, hleft, hdecl⟩ := h
  constructor <;> constructor <;>
    simp +contextual [hst, ht, hk, hbound, hover, hleft, hdecl, hbudget, hval, isWrite, isRead]

theorem identityBody_of_stateInv {s : State} (h : StateInv s) (hst : s.st = .awaitingBody)
    (ht : s.txn = .devinfo) : IdentityBody s where
  st := hst
  txn := ht
  record := errKind_eq_none (s := s) h hst (by decide)
  counted := counted_of_stateInv h
  left := h.control.objectsLeft hst ht
  declared := (h.length.inIdentityBody hst ht).1

/-- The invariant does not speak of the host's registers, of `stray` and of the inputs to come. -/
theorem stateInv_update {s : State} (h : StateInv s) (g : BitVec 16) (c v e x : Bool)
    (d : BitVec 32) (a : BitVec 16) (w : BitVec 9) (k : CmdErr) (is : List Input) :
    StateInv { s with
      genCrc := g, crcOk := c, dout := d, daux := a, dvalid := v, dend := e, warnPtr := w
      stray := x, cmdErr := k, input := is } :=
  ⟨{ h.control with }, { h.length with }⟩

/-! ### Taking a byte -/

theorem counted_acceptByte {s : State} (h : Counted s) (hlt : s.rxLen.toNat < 65543) (b : Byte) :
    Counted (s.acceptByte b) ∧ (s.acceptByte b).rxLen.toNat = s.rxLen.toNat + 1 := by
  have hlen : (s.acceptByte b).rxLen.toNat = s.rxLen.toNat + 1 := rxLen_succ_toNat h.bound
  refine ⟨⟨by omega, ?_⟩, hlen⟩
  rw [hlen, State.acceptByte_cfg, Nat.lt_succ_iff]
  rcases Nat.lt_or_ge s.rxLen.toNat s.cfg.rxbufCap with hroom | hfull
  · rw [(acceptByte_of_room b hroom).1, h.overflow]
    omega
  · rw [(acceptByte_of_full b hfull).1]
    simp [hfull]

/-! ### Header bytes -/

theorem hdrLen_le (t : Txn) : hdrLen t ≤ 8 := by cases t <;> decide

theorem hdrLen_of_isRead {t : Txn} (h : isRead t = true) : hdrLen t = 3 := by
  cases t with
  | pwrState | regs | batt | warn => rfl
  | devinfo | pwrOn | pwrOff => cases h

theorem counted_headerByteTaken {s : State} (h : StateInv s) (hst : s.st = .awaitingHeader)
    (b : Byte) :
    Counted (headerByteTaken s b) ∧
      (headerByteTaken s b).rxLen.toNat = s.hdrIdx.toNat + 1 := by
  obtain ⟨hlen, hidx⟩ := h.length.inHeader hst
  have hle := hdrLen_le s.txn
  obtain ⟨hc, hlen'⟩ := counted_acceptByte (counted_of_stateInv h) (by omega) b
  exact ⟨⟨hc.bound, hc.overflow⟩, hlen ▸ hlen'⟩

theorem hdrIdx_succ_toNat {s : State} (h : s.hdrIdx.toNat + 1 < hdrLen s.txn) :
    (s.hdrIdx + 1#3).toNat = s.hdrIdx.toNat + 1 := by
  have hle := hdrLen_le s.txn
  rw [BitVec.toNat_add]
  exact Nat.mod_eq_of_lt (show s.hdrIdx.toNat + 1 < 2 ^ 3 by omega)

theorem stateInv_headerByte {s : State} (h : StateInv s) (hst : s.st = .awaitingHeader)
    (hn : s.hdrIdx.toNat + 1 < hdrLen s.txn) (b : Byte) :
    StateInv { headerByteTaken s b with cmdErr := .ok } := by
  obtain ⟨hc, hlen⟩ := counted_headerByteTaken h hst b
  have hidx : (headerByteTaken s b).hdrIdx.toNat = s.hdrIdx.toNat + 1 := hdrIdx_succ_toNat hn
  refine stateInv_of_awaitingHeader hst (errKind_eq_none (s := s) h hst (by decide))
    ⟨hc.bound, hc.overflow⟩ ⟨hlen.trans hidx.symm, ?_⟩
  exact lt_of_eq_of_lt hidx hn

theorem stateInv_readHeader {s : State} (h : StateInv s) (hst : s.st = .awaitingHeader)
    (hn : hdrLen s.txn ≤ s.hdrIdx.toNat + 1) (ht : isRead s.txn = true) (b : Byte) :
    StateInv { headerByteTaken s b with
      decl := b, bodyRem := b, st := stateAfterCount b, cmdErr := .ok } := by
  obtain ⟨hc, hlen⟩ := counted_headerByteTaken h hst b
  obtain ⟨-, hidx⟩ := h.length.inHeader hst
  have hk : s.errKind = .none := errKind_eq_none (s := s) h hst (by decide)
  have hthree : (headerByteTaken s b).rxLen.toNat = 3 := by
    have hhdr := hdrLen_of_isRead ht
    omega
  obtain ⟨-, hb⟩ | ⟨hne, hb⟩ := stateAfterCount_cases b
  · exact stateInv_of_awaitingChecksum hb hk ⟨hc.bound, hc.overflow⟩
      (isWrite_eq_false_and_ne_devinfo_of_isRead ht).1
  · exact stateInv_of_readBody hb hk ⟨hc.bound, hc.overflow⟩ ht hne (congrArg (· + b.toNat) hthree)

theorem stateInv_identityHeader {s : State} (h : StateInv s) (hst : s.st = .awaitingHeader)
    (ht : s.txn = .devinfo) (b : Byte) :
    StateInv { headerByteTaken s b with
      decl := b, objRem := b, tlvPh := .id, st := stateAfterCount b, cmdErr := .ok } := by
  obtain ⟨hc, hlen⟩ := counted_headerByteTaken h hst b
  obtain ⟨-, hidx⟩ := h.length.inHeader hst
  have hk : s.errKind = .none := errKind_eq_none (s := s) h hst (by decide)
  have height : (headerByteTaken s b).rxLen.toNat ≤ 8 := by
    have hhdr := hdrLen_le s.txn
    omega
  obtain ⟨-, hb⟩ | ⟨hne, hb⟩ := stateAfterCount_cases b
  · exact stateInv_of_awaitingChecksum hb hk ⟨hc.bound, hc.overflow⟩ (congrArg isWrite ht)
  · refine stateInv_of_identityBody ⟨hb, ht, hk, ⟨hc.bound, hc.overflow⟩, hne, le_rfl⟩
      (fun hval => by cases hval) ?_
    exact height.trans (Nat.le_add_right 8 _)

/-! ### Body bytes -/

/-- A counter that is not exhausted. -/
theorem toNat_sub_one {x : BitVec 8} (h : x ≠ 0#8) : (x - 1#8).toNat + 1 = x.toNat := by
  bv_omega

theorem stateInv_rxReadBody {s : State} (h : StateInv s) (hst : s.st = .awaitingBody)
    (ht : isRead s.txn = true) (b : Byte) : StateInv (s.rxReadBody b) := by
  have hk : s.errKind = .none := errKind_eq_none (s := s) h hst (by decide)
  have hrem := toNat_sub_one (h.control.bodyLeft hst ht)
  have hbody := h.length.inReadBody hst ht
  have hdecl := s.decl.isLt
  obtain ⟨hc, hlen⟩ := counted_acceptByte (counted_of_stateInv h) (by omega) b
  rw [rxReadBody_eq hst]
  by_cases hone : s.bodyRem = 1#8
  · exact stateInv_of_awaitingChecksum (if_pos hone) hk ⟨hc.bound, hc.overflow⟩
      (isWrite_eq_false_and_ne_devinfo_of_isRead ht).1
  · refine stateInv_of_readBody (if_neg hone) hk ⟨hc.bound, hc.overflow⟩ ht
      (sub_one_eq_zero_iff.not.2 hone) ?_
    change (s.acceptByte b).rxLen.toNat + (s.bodyRem - 1#8).toNat = 3 + s.decl.toNat
    omega

/-- An object has at most 257 bytes, so a body that is under way has room for one more byte. -/
theorem rxLen_lt_of_tlvBudget {s : State} (h : IdentityBody s)
    (hval : s.tlvPh = .val → s.valRem ≠ 0#8) (hbudget : s.tlvBudget) : s.rxLen.toNat < 65543 := by
  have hleft := toNat_sub_one h.left
  have hle := h.declared
  have hdecl := s.decl.isLt
  unfold State.tlvBudget at hbudget
  cases hph : s.tlvPh with
  | id | len =>
    simp only [hph] at hbudget
    omega
  | val =>
    have hrem := toNat_sub_one (hval hph)
    simp only [hph] at hbudget
    omega

theorem tlvBudget_of_id {s : State} (hph : s.tlvPh = .id) :
    s.tlvBudget ↔ s.rxLen.toNat ≤ 8 + 257 * (s.decl.toNat - s.objRem.toNat) := by
  simp only [State.tlvBudget, hph]

theorem tlvBudget_of_len {s : State} (hph : s.tlvPh = .len) :
    s.tlvBudget ↔ s.rxLen.toNat ≤ 8 + 257 * (s.decl.toNat - s.objRem.toNat) + 1 := by
  simp only [State.tlvBudget, hph]

theorem tlvBudget_of_val {s : State} (hph : s.tlvPh = .val) :
    s.tlvBudget ↔
      s.rxLen.toNat + s.valRem.toNat ≤ 8 + 257 * (s.decl.toNat - s.objRem.toNat) + 257 := by
  simp only [State.tlvBudget, hph]

theorem IdentityBody.with_phase {s : State} (h : IdentityBody s) (ph : TlvPhase) (v : BitVec 8)
    (k : CmdErr) : IdentityBody { s with tlvPh := ph, valRem := v, cmdErr := k } :=
  ⟨h.st, h.txn, h.record, ⟨h.counted.bound, h.counted.overflow⟩, h.left, h.declared⟩

/-- The last byte of an object: 257 bytes more may have been taken for one object less to come. -/
theorem stateInv_objectDone {s : State} (h : IdentityBody s)
    (hlen : s.rxLen.toNat ≤ 8 + 257 * (s.decl.toNat - s.objRem.toNat) + 257) :
    StateInv { s.objectDone with cmdErr := .ok } := by
  obtain ⟨hst, ht, hk, ⟨hbound, hover⟩, hleft, hdecl⟩ := h
  have hrem := toNat_sub_one hleft
  rw [objectDone_eq hst]
  by_cases hone : s.objRem = 1#8
  · exact stateInv_of_awaitingChecksum (if_pos hone) hk ⟨hbound, hover⟩ (congrArg isWrite ht)
  · refine stateInv_of_identityBody ⟨if_neg hone, ht, hk, ⟨hbound, hover⟩,
      sub_one_eq_zero_iff.not.2 hone, ?_⟩ (fun hval => by cases hval) ((tlvBudget_of_id rfl).2 ?_)
    · change (s.objRem - 1#8).toNat ≤ s.decl.toNat
      omega
    · change s.rxLen.toNat ≤ 8 + 257 * (s.decl.toNat - (s.objRem - 1#8).toNat)
      omega

/-- The walk of a byte that has been taken, from the budget before it. -/
theorem stateInv_tlvWalk {s u : State} {b : Byte} (hu : IdentityBody u)
    (hval : u.tlvPh = .val → u.valRem ≠ 0#8) (hbudget : s.tlvBudget)
    (hs : s.tlvPh = u.tlvPh ∧ s.valRem = u.valRem ∧ s.objRem = u.objRem ∧ s.decl = u.decl)
    (hlen : u.rxLen.toNat = s.rxLen.toNat + 1) : StateInv { u.tlvWalk b with cmdErr := .ok } := by
  obtain ⟨hph', hval', hrem', hdecl'⟩ := hs
  cases hph : u.tlvPh with
  | id =>
    rw [tlvBudget_of_id (hph'.trans hph), hrem', hdecl'] at hbudget
    rw [tlvWalk_of_id hph]
    refine stateInv_of_identityBody (hu.with_phase .len u.valRem .ok) (fun h => by cases h)
      ((tlvBudget_of_len rfl).2 ?_)
    change u.rxLen.toNat ≤ 8 + 257 * (u.decl.toNat - u.objRem.toNat) + 1
    omega
  | len =>
    rw [tlvBudget_of_len (hph'.trans hph), hrem', hdecl'] at hbudget
    by_cases hb : b = 0#8
    · rw [tlvWalk_of_len_zero hph hb]
      exact stateInv_objectDone hu (by omega)
    · rw [tlvWalk_of_len hph hb]
      have hbyte := b.isLt
      refine stateInv_of_identityBody (hu.with_phase .val b .ok) (fun _ => hb)
        ((tlvBudget_of_val rfl).2 ?_)
      change u.rxLen.toNat + b.toNat ≤ 8 + 257 * (u.decl.toNat - u.objRem.toNat) + 257
      omega
  | val =>
    rw [tlvBudget_of_val (hph'.trans hph), hrem', hdecl', hval'] at hbudget
    have hrem := toNat_sub_one (hval hph)
    by_cases hone : u.valRem = 1#8
    · rw [tlvWalk_of_val_last hph hone]
      refine stateInv_objectDone (hu.with_phase u.tlvPh 0#8 u.cmdErr) ?_
      change u.rxLen.toNat ≤ 8 + 257 * (u.decl.toNat - u.objRem.toNat) + 257
      omega
    · rw [tlvWalk_of_val hph hone]
      refine stateInv_of_identityBody (hu.with_phase u.tlvPh (u.valRem - 1#8) .ok)
        (fun _ => sub_one_eq_zero_iff.not.2 hone) ?_
      refine (tlvBudget_of_val (s := { u with valRem := u.valRem - 1#8, cmdErr := .ok }) hph).2 ?_
      change u.rxLen.toNat + (u.valRem - 1#8).toNat ≤ 8 + 257 * (u.decl.toNat - u.objRem.toNat) + 257
      omega

theorem stateInv_rxIdentityBody {s : State} (h : StateInv s) (hst : s.st = .awaitingBody)
    (ht : s.txn = .devinfo) (b : Byte) : StateInv (s.rxIdentityBody b) := by
  have hbody := identityBody_of_stateInv h hst ht
  have hval := h.control.valueLeft hst ht
  obtain ⟨-, hbudget⟩ := h.length.inIdentityBody hst ht
  obtain ⟨hc, hlen⟩ :=
    counted_acceptByte hbody.counted (rxLen_lt_of_tlvBudget hbody hval hbudget) b
  exact stateInv_tlvWalk (s := s) (u := s.acceptByte b)
    ⟨hst, ht, hbody.record, hc, hbody.left, hbody.declared⟩ hval hbudget ⟨rfl, rfl, rfl, rfl⟩ hlen

/-! ### Every step -/

/-- A transaction that awaits its trailer is no write. -/
theorem isWrite_of_awaitingChecksum {s : State} (h : StateInv s) (hst : s.st = .awaitingChecksum) :
    isWrite s.txn = false :=
  h.control.stageOfWrite (.inr hst)

theorem stateInv_of_effect {i : Instr} {s t : State} (heffect : Effect s i t) (h : StateInv s) :
    StateInv t := by
  have hc := counted_of_stateInv h
  cases heffect with
  | hostOnly hframe =>
    rw [hframe]
    exact stateInv_update h _ _ _ _ s.stray _ _ _ _ s.input
  | unexpected => exact stateInv_update h _ _ _ _ true _ _ _ .unexpected s.input
  | cleared => exact stateInv_of_idle rfl rfl (counted_of_no_byte rfl rfl)
  | started x => exact stateInv_of_sent rfl rfl (counted_of_no_byte rfl rfl) ⟨rfl, rfl⟩
  | sent n hst =>
    obtain ⟨hlen, hidx⟩ := h.length.beforeHeader hst
    refine stateInv_of_awaitingHeader rfl (errKind_eq_none (s := s) h hst (by decide))
      ⟨hc.bound, hc.overflow⟩ ?_
    simp only [hlen, hidx]
    exact ⟨rfl, by cases s.txn <;> decide⟩
  | shortWrite | linkFailed | trailerMismatch | decodeFailed =>
    exact stateInv_of_failed rfl (fun hk => by cases hk) ⟨hc.bound, hc.overflow⟩
  | headerByte b hst hn => exact stateInv_headerByte h hst hn b
  | headerMismatch b hst =>
    obtain ⟨hc', -⟩ := counted_headerByteTaken h hst b
    exact stateInv_of_failed rfl (fun hk => by cases hk) ⟨hc'.bound, hc'.overflow⟩
  | writeEchoed b hst hn ht =>
    obtain ⟨hc', -⟩ := counted_headerByteTaken h hst b
    exact stateInv_of_complete rfl (errKind_eq_none (s := s) h hst (by decide)) ⟨hc'.bound, hc'.overflow⟩
      (fun hno => by cases hno.symm.trans ht)
  | readHeader b hst hn ht => exact stateInv_readHeader h hst hn ht b
  | identityHeader b hst _ ht => exact stateInv_identityHeader h hst ht b
  | readBody b hst ht => exact stateInv_rxReadBody h hst ht b
  | identityBody b hst ht => exact stateInv_rxIdentityBody h hst ht b
  | writeBody b hst ht => cases (h.control.stageOfWrite (.inl hst)).symm.trans ht
  | trailerLatched b hst =>
    exact stateInv_of_awaitingChecksum hst (errKind_eq_none (s := s) h hst (by decide))
      ⟨hc.bound, hc.overflow⟩ (isWrite_of_awaitingChecksum (s := s) h hst)
  | decoded b hst hcheck =>
    exact stateInv_of_complete rfl (errKind_eq_none (s := s) h hst (by decide)) ⟨hc.bound, hc.overflow⟩
      (fun _ => hcheck)

/-- RESET leads to Idle, with no byte received. -/
theorem stateInv_applyReset (s : State) : StateInv s.applyReset :=
  stateInv_of_idle rfl rfl (counted_of_no_byte rfl rfl)

/-- Settles O54: each effect leads to a state whose demands its registers meet. -/
theorem stepKeepsTheStateInvariant : Obligations.StepKeepsTheStateInvariant := fun _ _ =>
  step_keeps (P := StateInv)
    (fun s h => stateInv_update h _ _ _ _ s.stray _ _ _ _ s.input.tail)
    (fun s _ => stateInv_applyReset s) stateInv_of_effect

theorem eventInv_reset : EventInv State.reset where
  paired := rfl
  frames _ h := by cases h
  assembled hst := absurd rfl hst
  offered hst := by cases hst

/-- Settles O52: the state after reset is one that RESET answers, and has emitted nothing. -/
theorem resetStateKeepsTheInvariants : Obligations.ResetStateKeepsTheInvariants :=
  ⟨memoryInv_applyReset State.reset, stateInv_applyReset State.reset,
    crcInv_of_no_byte rfl rfl rfl, eventInv_reset⟩

end Sys2Proof.Proofs.StateInvariant

/-! PROOF. The residue of a frame with its checksum (41_checksum.md R86): a step on the accumulator's own low
byte shifts it out, and the high byte is all that is left. -/

namespace Sys2Proof.Proofs.Residue

open Machine

theorem crcShift_of_even {c : BitVec 16} (h : c.getLsbD 0 = false) : crcShift c = c >>> 1 := by
  simp only [crcShift, h, Bool.false_eq_true, if_false]

/-- As long as the bits shifted out are 0, nothing is XORed in. -/
theorem crcShifts_of_low_bits_zero {n : Nat} {c : BitVec 16} (h : ∀ i < n, c.getLsbD i = false) :
    crcShifts n c = c >>> n := by
  induction n generalizing c with
  | zero => rfl
  | succ n ih =>
    have hrest : ∀ i < n, (c >>> 1).getLsbD i = false := fun i hi => by
      rw [BitVec.getLsbD_ushiftRight]
      exact h (1 + i) (by omega)
    rw [crcShifts, crcShift_of_even (h 0 n.succ_pos), ih hrest, ← BitVec.shiftRight_add,
      Nat.add_comm]

theorem crcStep_lo8 (c : BitVec 16) : crcStep c (lo8 c) = c >>> 8 := by
  have hlow : ∀ i < 8, (c ^^^ (lo8 c).setWidth 16).getLsbD i = false := by
    intro i hi
    simp [lo8, hi, Nat.lt_trans hi (by decide : 8 < 16)]
  rw [crcStep, crcShifts_of_low_bits_zero hlow]
  ext i hi
  simp [lo8]

theorem hi8_setWidth (c : BitVec 16) : (hi8 c).setWidth 16 = c >>> 8 := by
  apply BitVec.eq_of_toNat_eq
  have hc := c.isLt
  simp only [hi8, BitVec.toNat_setWidth, BitVec.extractLsb'_toNat, BitVec.toNat_ushiftRight,
    Nat.shiftRight_eq_div_pow]
  omega

theorem crcStep_hi8 (c : BitVec 16) : crcStep (c >>> 8) (hi8 c) = 0x0000#16 := by
  rw [crcStep, hi8_setWidth, BitVec.xor_self, crcShifts_of_low_bits_zero (by simp)]
  rfl

/-- Settles O13: the accumulator that meets its own two bytes, the low one first, is shifted out. -/
theorem frameWithItsChecksumHasResidueZero : Obligations.FrameWithItsChecksumHasResidueZero := by
  intro F
  calc crc16 (F ++ [lo8 (crc16 F), hi8 (crc16 F)])
      = crcStep (crcStep (crc16 F) (lo8 (crc16 F))) (hi8 (crc16 F)) := by simp [crc16]
    _ = crcStep (crc16 F >>> 8) (hi8 (crc16 F)) := by rw [crcStep_lo8]
    _ = 0x0000#16 := crcStep_hi8 (crc16 F)

end Sys2Proof.Proofs.Residue

/-! PROOF. A header byte that is not the last (43_parser.md R105), and the decode check behind a matching
trailer (R117): its causes in the order of the rule, and the objects of an identity body (R118). -/

namespace Sys2Proof.Proofs.DecodeCheck

open Machine Statement Proofs.Parser Proofs.RegisterDecoder Proofs.Effects

/-! ### A header byte that is not the last (R105) -/

/-- Settles O23: past `accept` the byte is counted. -/
theorem headerByteIsTaken : Obligations.HeaderByteIsTaken := by
  intro b s hst hwf hn
  have hexec : exec (.rxByte b) s = .next { headerByteTaken s b with cmdErr := .ok } := by
    rw [exec_rxByte_of_awaitingHeader b hst, rxHeader_of_not_last hn]
  exact ⟨_, hexec, accepted_of_withAccepted_eq hwf rfl, rfl⟩

/-! ### The causes (R117) -/

theorem decodeCheck_of_ovf {s : State} (h : s.ovf = true) : decodeCheck s = some causeOverflow :=
  if_pos h

theorem decodeCheck_of_isRead {s : State} (h : s.ovf = false) (ht : isRead s.txn = true) :
    decodeCheck s = if s.decl.toNat = expLen s.txn then none else some causeLength := by
  cases htxn : s.txn with
  | pwrState | regs | batt | warn => simp [decodeCheck, h, htxn]
  | devinfo | pwrOn | pwrOff => simp [htxn, isRead] at ht

theorem decodeCheck_of_devinfo {s : State} (h : s.ovf = false) (ht : s.txn = .devinfo) :
    decodeCheck s = (objects s.rxBuf s.decl).findSome? (objectFault s.rxBuf) := by
  simp [decodeCheck, h, ht]

theorem runDecodeCheck_of_none {s : State} (h : decodeCheck s = none) :
    s.runDecodeCheck = s.enterComplete := by
  simpa [h] using runDecodeCheck_cases s

theorem runDecodeCheck_of_some {s : State} {c : BitVec 3} (h : decodeCheck s = some c) :
    s.runDecodeCheck = s.fail .decode c := by
  simpa [h] using runDecodeCheck_cases s

/-! ### The second trailer byte that matches (R111) -/

/-- The state in which a matching trailer meets the decode check. -/
def trailerMatched (s : State) : State := { s with rxCs := s.chkCrc }

theorem exec_rxByte_of_trailer_matched {b : Byte} {s : State} (hst : s.st = .awaitingChecksum)
    (hidx : s.csIdx = true) (hcrc : s.chkCrc = b ++ s.rxCs.extractLsb' 0 8) :
    exec (.rxByte b) s = .next (trailerMatched s).runDecodeCheck := by
  rw [exec_rxByte_of_awaitingChecksum b hst, rxTrailer_of_eq hidx hcrc.symm]
  rfl

theorem exec_rxByte_of_decodeCheck_none {b : Byte} {s : State} (hst : s.st = .awaitingChecksum)
    (hidx : s.csIdx = true) (hcrc : s.chkCrc = b ++ s.rxCs.extractLsb' 0 8)
    (hcheck : decodeCheck s = none) :
    exec (.rxByte b) s = .next (completed { s with rxCs := s.chkCrc }) := by
  rw [exec_rxByte_of_trailer_matched hst hidx hcrc,
    runDecodeCheck_of_none (s := trailerMatched s) hcheck]
  rfl

theorem exec_rxByte_of_decodeCheck_some {b : Byte} {s : State} {c : BitVec 3}
    (hst : s.st = .awaitingChecksum) (hidx : s.csIdx = true)
    (hcrc : s.chkCrc = b ++ s.rxCs.extractLsb' 0 8) (hcheck : decodeCheck s = some c) :
    exec (.rxByte b) s =
      .next (failed { s with rxCs := s.chkCrc } .awaitingChecksum .decode c) := by
  rw [exec_rxByte_of_trailer_matched hst hidx hcrc,
    runDecodeCheck_of_some (s := trailerMatched s) hcheck, fail_eq_failed (s := trailerMatched s) hst]
  rfl

/-- Settles O28: an overflow is the first cause, and a read's only other one is its length. -/
theorem matchingTrailerRunsTheDecodeCheck : Obligations.MatchingTrailerRunsTheDecodeCheck := by
  refine fun b s hst hidx hcrc => ⟨fun hovf => ?overflow, fun hovf ht hlen => ?complete,
    fun hovf ht hlen => ?length⟩
  case overflow => exact exec_rxByte_of_decodeCheck_some hst hidx hcrc (decodeCheck_of_ovf hovf)
  case complete =>
    exact exec_rxByte_of_decodeCheck_none hst hidx hcrc
      ((decodeCheck_of_isRead hovf ht).trans (if_pos hlen))
  case length =>
    exact exec_rxByte_of_decodeCheck_some hst hidx hcrc
      ((decodeCheck_of_isRead hovf ht).trans (if_neg hlen))

theorem objectFault_cases (m : Memory) (o : TlvObject) :
    objectFault m o = none ∨ objectFault m o = some (objectCause o) := by
  by_cases hid : o.id = 0x87#8
  · by_cases hlen : o.value.len = 2 <;>
      simp [objectFault, objectCause, isCount_iff.2 hid, hid, hlen, causeDevcountLen]
  · cases hrec : recordOk m o.value <;>
      simp [objectFault, objectCause, isCount_iff.not.2 hid, hid, hrec, causeMissingKey]

theorem objectFault_of_not_ok {m : Memory} {o : TlvObject} (h : ¬ ObjectOk m o) :
    objectFault m o = some (objectCause o) :=
  (objectFault_cases m o).resolve_left (mt objectFault_eq_none_iff.1 h)

theorem decodeCheck_of_all_ok {s : State} (hovf : s.ovf = false) (ht : s.txn = .devinfo)
    (h : ∀ o ∈ objects s.rxBuf s.decl, ObjectOk s.rxBuf o) : decodeCheck s = none := by
  rw [decodeCheck_of_devinfo hovf ht, List.findSome?_eq_none_iff]
  exact fun o ho => objectFault_eq_none_iff.2 (h o ho)

theorem decodeCheck_of_first_bad {s : State} (hovf : s.ovf = false) (ht : s.txn = .devinfo)
    {pre post : List TlvObject} {o : TlvObject} (hos : objects s.rxBuf s.decl = pre ++ o :: post)
    (hpre : ∀ x ∈ pre, ObjectOk s.rxBuf x) (ho : ¬ ObjectOk s.rxBuf o) :
    decodeCheck s = some (objectCause o) := by
  have hnone : pre.findSome? (objectFault s.rxBuf) = none :=
    List.findSome?_eq_none_iff.2 fun x hx => objectFault_eq_none_iff.2 (hpre x hx)
  rw [decodeCheck_of_devinfo hovf ht, hos, List.findSome?_append, hnone, Option.none_or,
    List.findSome?_cons, objectFault_of_not_ok ho]

/-- Settles O29: the check is a search for the first object with a fault, and an object has one exactly when
it does not pass. -/
theorem identityDecodeCheckFindsTheFirstBadObject :
    Obligations.IdentityDecodeCheckFindsTheFirstBadObject :=
  fun _ _ hst hidx ht hovf hcrc =>
    ⟨fun h => exec_rxByte_of_decodeCheck_none hst hidx hcrc (decodeCheck_of_all_ok hovf ht h),
     fun _ _ _ hos hpre ho => exec_rxByte_of_decodeCheck_some hst hidx hcrc
      (decodeCheck_of_first_bad hovf ht hos hpre ho)⟩

/-! ### The objects of an identity body (R118) -/

theorem objectsFrom_succ (m : Memory) (p n : Nat) :
    objectsFrom m p (n + 1) =
      ⟨m.read p, ⟨p + 2, (m.read (p + 1)).toNat⟩⟩ ::
        objectsFrom m (p + 2 + (m.read (p + 1)).toNat) n := rfl

theorem objectsFrom_length (m : Memory) (p n : Nat) : (objectsFrom m p n).length = n := by
  induction n generalizing p with
  | zero => rfl
  | succ n ih => rw [objectsFrom_succ, List.length_cons, ih]

theorem objectsFrom_head {m : Memory} {p n : Nat} {o : TlvObject}
    (h : (objectsFrom m p n).head? = some o) : o.value.start = p + 2 := by
  cases n with
  | zero => cases h
  | succ n =>
    cases h
    rfl

/-- The id and the length of an object are the two bytes before its value. -/
theorem objectsFrom_mem {m : Memory} {p n : Nat} {o : TlvObject} (h : o ∈ objectsFrom m p n) :
    p + 2 ≤ o.value.start ∧ o.id = m.read (o.value.start - 2) ∧
      o.value.len = (m.read (o.value.start - 1)).toNat := by
  induction n generalizing p with
  | zero => cases h
  | succ n ih =>
    rw [objectsFrom_succ] at h
    obtain rfl | h := List.mem_cons.1 h
    · exact ⟨le_rfl, rfl, rfl⟩
    · obtain ⟨hstart, hbytes⟩ := ih h
      exact ⟨by omega, hbytes⟩

/-- An object starts where the one before it ends. -/
theorem objectsFrom_next {m : Memory} {p n : Nat} {pre post : List TlvObject} {o o' : TlvObject}
    (h : objectsFrom m p n = pre ++ o :: o' :: post) :
    o'.value.start = o.value.start + o.value.len + 2 := by
  induction pre generalizing p n with
  | nil =>
    match n, h with
    | n + 2, h =>
      cases h
      rfl
  | cons x pre ih =>
    cases n with
    | zero => cases h
    | succ n => exact ih (List.cons.inj h).2

/-- Settles O30: the walk from index 8, object by object. -/
theorem objectsLieEndToEndFromIndexEight : Obligations.ObjectsLieEndToEndFromIndexEight :=
  fun m decl => ⟨objectsFrom_length m 8 decl.toNat, fun _ => objectsFrom_head,
    fun _ => objectsFrom_mem, fun _ _ _ _ => objectsFrom_next⟩

end Sys2Proof.Proofs.DecodeCheck

/-! PROOF. Whole queries of the register decoder (44_decoder.md): a scan of the warnings (R138) and the device
count (R141). -/

namespace Sys2Proof.Proofs.DecoderQueries

open Machine Statement Proofs.Checksum Proofs.RegisterDecoder

/-! ### A scan of the warnings (R138) -/

/-- The search finds nothing, or splits the ROM at its first active entry. -/
theorem nextActive_cases (m : Memory) (j : Nat) (rom : List WarnEntry) :
    (nextActive m j rom = none ∧ ∀ e ∈ rom, warnBit m e = false) ∨
    (∃ pre e post, rom = pre ++ e :: post ∧ (∀ x ∈ pre, warnBit m x = false) ∧
      warnBit m e = true ∧ nextActive m j rom = some (j + pre.length, e)) := by
  induction rom generalizing j with
  | nil => exact .inl ⟨rfl, by simp⟩
  | cons x rom ih =>
    cases hx : warnBit m x with
    | true => exact .inr ⟨[], x, rom, rfl, by simp, hx, by simp [nextActive, hx]⟩
    | false =>
      obtain ⟨hnone, hrom⟩ | ⟨pre, e, post, rfl, hpre, he, hsome⟩ := ih (j + 1)
      · exact .inl ⟨by simp [nextActive, hx, hnone], by simpa [hx] using hrom⟩
      · refine .inr ⟨x :: pre, e, post, rfl, by simpa [hx] using hpre, he, ?_⟩
        simp [nextActive, hx, hsome, Nat.add_assoc, Nat.add_comm 1]

theorem warnRom_length_le (c : Config) : c.warnRom.length ≤ 256 := by
  have hwf := c.wf
  simp only [ConfigData.wellFormed, Bool.and_eq_true, warnRomWellFormed, decide_eq_true_eq] at hwf
  obtain ⟨-, hlen, -⟩ := hwf
  exact hlen

/-- The outputs of a warning entry. -/
def warnOutput (e : WarnEntry) : BitVec 32 × BitVec 16 := (e.wid.setWidth 32, e.rid)

/-- The state once the entry `e` at the position `j` has been reported (R137). -/
def warnReported (s : State) (j : Nat) (e : WarnEntry) : State :=
  { s with
    dout := e.wid.setWidth 32, daux := e.rid, dvalid := true, dend := false
    warnPtr := BitVec.ofNat 9 (j + 1), cmdErr := .ok }

theorem warnScan_of_none {s : State} (hst : s.st = .complete) (ht : s.txn = .warn)
    (hnext : nextActive s.rxBuf s.warnPtr.toNat (s.cfg.warnRom.drop s.warnPtr.toNat) = none)
    (n : Nat) : warnScan (n + 1) s = [] := by
  simp [warnScan, exec_decWarnNext_of_none hst ht hnext]

theorem warnScan_of_some {s : State} {j : Nat} {e : WarnEntry} (hst : s.st = .complete)
    (ht : s.txn = .warn)
    (hnext :
      nextActive s.rxBuf s.warnPtr.toNat (s.cfg.warnRom.drop s.warnPtr.toNat) = some (j, e))
    (n : Nat) : warnScan (n + 1) s = warnOutput e :: warnScan n (warnReported s j e) := by
  simp [warnScan, exec_decWarnNext_of_some hst ht hnext, warnOutput, warnReported]

theorem filter_eq_nil_of_inactive {m : Memory} {rom : List WarnEntry}
    (h : ∀ e ∈ rom, warnBit m e = false) : rom.filter (warnBit m) = [] :=
  List.filter_eq_nil_iff.2 fun e he => by simp [h e he]

/-- From any position of the iterator a scan lists the active entries from there on. -/
theorem warnScan_eq {n : Nat} {s : State} (hst : s.st = .complete) (ht : s.txn = .warn)
    (hn : s.cfg.warnRom.length < s.warnPtr.toNat + n) :
    warnScan n s =
      ((s.cfg.warnRom.drop s.warnPtr.toNat).filter (warnBit s.rxBuf)).map warnOutput := by
  induction n generalizing s with
  | zero =>
    rw [List.drop_eq_nil_of_le (by omega)]
    rfl
  | succ n ih =>
    obtain ⟨hnone, hrom⟩ | ⟨pre, e, post, hrom, hpre, he, hsome⟩ :=
      nextActive_cases s.rxBuf s.warnPtr.toNat (s.cfg.warnRom.drop s.warnPtr.toNat)
    · rw [warnScan_of_none hst ht hnone, filter_eq_nil_of_inactive hrom, List.map_nil]
    · have hlen := congrArg List.length hrom
      rw [List.length_drop, List.length_append, List.length_cons] at hlen
      have hmax := warnRom_length_le s.cfg
      have hptr : (warnReported s (s.warnPtr.toNat + pre.length) e).warnPtr.toNat =
          s.warnPtr.toNat + (pre.length + 1) := by
        rw [warnReported, BitVec.toNat_ofNat]
        omega
      have hpost : s.cfg.warnRom.drop (s.warnPtr.toNat + (pre.length + 1)) = post := by
        rw [← List.drop_drop, hrom]
        simp
      have hrest : warnScan n (warnReported s (s.warnPtr.toNat + pre.length) e) =
          (post.filter (warnBit s.rxBuf)).map warnOutput := by
        rw [← hpost, ← hptr]
        refine ih hst ht ?_
        rw [hptr]
        change s.cfg.warnRom.length < _
        omega
      rw [warnScan_of_some hst ht hsome, hrest, hrom, List.filter_append,
        filter_eq_nil_of_inactive hpre, List.nil_append, List.filter_cons_of_pos he, List.map_cons]

/-- Settles O37: the scan from the start of the iterator. -/
theorem warnScanListsTheActiveWarnings : Obligations.WarnScanListsTheActiveWarnings := by
  intro s n hst ht hptr hn
  have hzero : s.warnPtr.toNat = 0 := by rw [hptr]; rfl
  rw [warnScan_eq hst ht (by omega), hzero, List.drop_zero]
  congr 1
  refine List.filter_congr fun e _ => ?_
  rw [Bool.eq_iff_iff, warnBit_eq_true_iff, decide_eq_true_iff]

/-! ### DEC_DEVCOUNT (R140, R141) -/

theorem exec_decDevcount_of_devinfo {s : State} (hst : s.st = .complete) (ht : s.txn = .devinfo) :
    exec .decDevcount s = .next (s.setOutputs
      ((deviceCount s.rxBuf (objects s.rxBuf s.decl)).setWidth 32)
      (BitVec.ofNat 16 (records (objects s.rxBuf s.decl)).length)
      (countPresent (objects s.rxBuf s.decl))) := by
  simp only [exec, execDecDevcount, decodeCommand_of_allowed hst (List.mem_singleton.2 ht)]

theorem records_length (os : List TlvObject) :
    (records os).length = os.countP fun x => x.id != 0x87#8 := by
  rw [records, List.length_map, List.countP_eq_length_filter]
  rfl

theorem countObjects_eq_nil {os : List TlvObject} (h : ∀ x ∈ os, x.id ≠ 0x87#8) :
    countObjects os = [] :=
  List.filter_eq_nil_iff.2 fun x hx => isCount_iff.not.2 (h x hx)

/-- The count object with none behind it is the last. -/
theorem countObjects_getLast {pre post : List TlvObject} {o : TlvObject} (ho : o.id = 0x87#8)
    (hpost : ∀ x ∈ post, x.id ≠ 0x87#8) :
    (countObjects (pre ++ o :: post)).getLast? = some o := by
  have hcount : countObjects (pre ++ o :: post) = countObjects pre ++ [o] := by
    rw [countObjects, List.filter_append, List.filter_cons_of_pos (isCount_iff.2 ho)]
    exact congrArg (fun l => countObjects pre ++ o :: l) (countObjects_eq_nil hpost)
  rw [hcount, List.getLast?_concat]

/-- Settles O38: COUNT reads the last count object, PRESENT says whether there is one, and the other objects
are the records. -/
theorem deviceCountIsTheLastCountObject : Obligations.DeviceCountIsTheLastCountObject := by
  refine ⟨rfl, refusedAbove_of_reservedMask rfl, refusedUnlessComplete_decDevcount, ?complete⟩
  case complete =>
    rintro s os hst ht rfl
    rw [exec_decDevcount_of_devinfo hst ht, records_length]
    refine ⟨fun pre o post hos ho hpost => ?_, fun hno => ?_⟩
    · have hpresent : countPresent (objects s.rxBuf s.decl) = true :=
        List.any_eq_true.2 ⟨o, by simp [hos], isCount_iff.2 ho⟩
      have hcount : deviceCount s.rxBuf (objects s.rxBuf s.decl) = s.rxBuf.be16 o.value.start := by
        rw [deviceCount, hos, countObjects_getLast ho hpost]
      rw [hpresent, hcount, be16_setWidth_eq_ofNat]
      rfl
    · have habsent : countPresent (objects s.rxBuf s.decl) = false :=
        List.any_eq_false.2 fun x hx => isCount_iff.not.2 (hno x hx)
      have hcount : deviceCount s.rxBuf (objects s.rxBuf s.decl) = 0#16 := by
        rw [deviceCount, countObjects_eq_nil hno]
        rfl
      have hall : (objects s.rxBuf s.decl).countP (fun x => x.id != 0x87#8) =
          (objects s.rxBuf s.decl).length :=
        List.countP_eq_length.2 fun x hx => bne_iff_ne.2 (hno x hx)
      rw [habsent, hcount, hall]
      rfl

end Sys2Proof.Proofs.DecoderQueries

/-! PROOF. What a word does not depend on: a transport word not on the registers that the host's commands
write (60_exceptions.md R151), and no word on the `cmd_err` before it (10_state.md R36). -/

namespace Sys2Proof.Proofs.Independence

open Machine Statement Proofs.Encoding Proofs.Checksum Proofs.Assembler Proofs.Parser
open Proofs.RegisterDecoder Proofs.Exceptions Proofs.Effects Proofs.DecodeCheck

/-! ### The transport words (R151) -/

/-- The registers that the host's commands write, but for `cmd_err` and `warn_ptr`. -/
structure HostRegisters where
  genCrc : BitVec 16
  crcOk : Bool
  dout : BitVec 32
  daux : BitVec 16
  dvalid : Bool
  dend : Bool

/-- `s` with these registers as `h` says. -/
def withHost (h : HostRegisters) (s : State) : State :=
  { s with
    genCrc := h.genCrc, crcOk := h.crcOk, dout := h.dout, daux := h.daux, dvalid := h.dvalid
    dend := h.dend }

/-- `s` with these registers and `cmd_err` as something else. -/
def withHostAndErr (h : HostRegisters) (k : CmdErr) (s : State) : State :=
  { withHost h s with cmdErr := k }

section

variable (h : HostRegisters) (k : CmdErr) (s : State) (b : Byte)

theorem headerDone_withHost (bs : List Byte) :
    (withHostAndErr h k s).headerDone bs b = withHost h (s.headerDone bs b) := by
  dsimp only [State.headerDone, withHostAndErr, withHost]
  split
  · split <;> rfl
  · rfl

theorem rxHeader_withHost : (withHostAndErr h k s).rxHeader b = withHost h (s.rxHeader b) := by
  rcases Nat.lt_or_ge (s.hdrIdx.toNat + 1) (hdrLen s.txn) with hn | hn
  · rw [rxHeader_of_not_last hn, rxHeader_of_not_last (s := withHostAndErr h k s) hn]
    rfl
  · rw [rxHeader_of_last hn, rxHeader_of_last (s := withHostAndErr h k s) hn,
      ← headerDone_withHost h k]
    rfl

theorem tlvWalk_withHost : (withHostAndErr h k s).tlvWalk b = withHostAndErr h k (s.tlvWalk b) := by
  dsimp only [State.tlvWalk, withHostAndErr, withHost]
  split
  · rfl
  · split <;> rfl
  · split <;> rfl

theorem rxBody_of_isWrite {s : State} (ht : isWrite s.txn = true) (b : Byte) :
    s.rxBody b = { s.acceptByte b with cmdErr := .ok } := by
  simpa [ht, isRead_eq_false_and_ne_devinfo_of_isWrite ht] using rxBody_cases s b

theorem rxBody_withHost : (withHostAndErr h k s).rxBody b = withHost h (s.rxBody b) := by
  obtain ⟨ht, hbody⟩ | ⟨ht, hbody⟩ | ⟨ht, hbody⟩ := rxBody_cases s b <;> rw [hbody]
  · rw [rxBody_of_devinfo (s := withHostAndErr h k s) ht, State.rxIdentityBody]
    exact congrArg (fun u : State => { u with cmdErr := .ok })
      (tlvWalk_withHost h k (s.acceptByte b) b)
  · rw [rxBody_of_isRead (s := withHostAndErr h k s) ht]
    rfl
  · rw [rxBody_of_isWrite (s := withHostAndErr h k s) ht]
    rfl

theorem runDecodeCheck_withHost :
    (withHostAndErr h k s).runDecodeCheck = withHost h s.runDecodeCheck := by
  have hsame : decodeCheck (withHostAndErr h k s) = decodeCheck s := rfl
  rw [State.runDecodeCheck, State.runDecodeCheck, hsame]
  cases decodeCheck s <;> rfl

theorem rxTrailer_withHost : (withHostAndErr h k s).rxTrailer b = withHost h (s.rxTrailer b) := by
  cases hidx : s.csIdx with
  | false =>
    rw [rxTrailer_of_first hidx, rxTrailer_of_first (s := withHostAndErr h k s) hidx]
    rfl
  | true =>
    by_cases heq : halfOf b (lo8 s.rxCs) = s.chkCrc
    · rw [rxTrailer_of_eq hidx heq, rxTrailer_of_eq (s := withHostAndErr h k s) hidx heq]
      exact runDecodeCheck_withHost h k { s with rxCs := s.chkCrc }
    · rw [rxTrailer_of_ne hidx heq, rxTrailer_of_ne (s := withHostAndErr h k s) hidx heq]
      rfl

/-- The answer in `s`, but for the registers of `h`, which stay as they were. -/
def AnswersAlike (i : Instr) : Prop :=
  ∃ t, exec i s = .next t ∧ exec i (withHostAndErr h k s) = .next (withHost h t)

theorem rxByte_answersAlike : AnswersAlike h k s (.rxByte b) := by
  cases hst : s.st with
  | awaitingHeader =>
    refine ⟨_, exec_rxByte_of_awaitingHeader b hst, ?_⟩
    rw [← rxHeader_withHost h k]
    exact exec_rxByte_of_awaitingHeader b hst
  | awaitingBody =>
    refine ⟨_, exec_rxByte_of_awaitingBody b hst, ?_⟩
    rw [← rxBody_withHost h k]
    exact exec_rxByte_of_awaitingBody b hst
  | awaitingChecksum =>
    refine ⟨_, exec_rxByte_of_awaitingChecksum b hst, ?_⟩
    rw [← rxTrailer_withHost h k]
    exact exec_rxByte_of_awaitingChecksum b hst
  | idle | sent | complete | failed =>
    have hmem : s.st ∈ [Fsm.idle, Fsm.sent, Fsm.complete, Fsm.failed] := by simp [hst]
    exact ⟨_, exec_rxByte_of_no_stage b hmem,
      exec_rxByte_of_no_stage (s := withHostAndErr h k s) b hmem⟩

theorem txDone_answersAlike (n : BitVec 4) : AnswersAlike h k s (.txDone n) := by
  by_cases hst : s.st = .sent
  · rcases Nat.lt_or_ge n.toNat s.txLen.toNat with hn | hn
    · exact ⟨_, exec_txDone_of_short hst hn,
        exec_txDone_of_short (s := withHostAndErr h k s) hst hn⟩
    · exact ⟨_, exec_txDone_of_whole hst hn,
        exec_txDone_of_whole (s := withHostAndErr h k s) hst hn⟩
  · exact ⟨_, exec_txDone_of_not_sent n hst,
      exec_txDone_of_not_sent (s := withHostAndErr h k s) n hst⟩

theorem linkFail_answersAlike (c : BitVec 3) : AnswersAlike h k s (.linkFail c) := by
  by_cases hc : c ∈ [1#3, 3#3, 4#3]
  · cases hst : s.st.active with
    | true => exact ⟨_, exec_linkFail_of_active hc hst,
        exec_linkFail_of_active (s := withHostAndErr h k s) hc hst⟩
    | false => exact ⟨_, exec_linkFail_of_not_active hc hst,
        exec_linkFail_of_not_active (s := withHostAndErr h k s) hc hst⟩
  · exact ⟨_, exec_linkFail_of_no_cause hc s, exec_linkFail_of_no_cause hc _⟩

theorem transportWord_answersAlike {i : Instr} (hi : transportWord i = true) :
    AnswersAlike h k s i := by
  cases i with
  | txDone n => exact txDone_answersAlike h k s n
  | rxByte b => exact rxByte_answersAlike h k s b
  | linkFail c => exact linkFail_answersAlike h k s c
  | _ => cases hi

end

/-- Settles O50: nothing on a transport word's way reads these registers, or writes one but `cmd_err`. -/
theorem transportWordsIgnoreTheHostsRegisters :
    Obligations.TransportWordsIgnoreTheHostsRegisters := by
  intro i s g c v e d a k hi
  obtain ⟨t, hexec, hhost⟩ := transportWord_answersAlike ⟨g, c, d, a, v, e⟩ k s hi
  rw [hexec]
  exact hhost

/-! ### The `cmd_err` before a word (R36) -/

section

variable (s : State)

/-- The registers as they are, for `withHost` to leave alone. -/
def hostRegisters (s : State) : HostRegisters :=
  ⟨s.genCrc, s.crcOk, s.dout, s.daux, s.dvalid, s.dend⟩

theorem exec_transportWord_cmdErr {i : Instr} (hi : transportWord i = true) (c : CmdErr) :
    exec i { s with cmdErr := c } = exec i s := by
  obtain ⟨t, hexec, hhost⟩ := transportWord_answersAlike (hostRegisters s) c s hi
  obtain ⟨t', hexec', hhost'⟩ := transportWord_answersAlike (hostRegisters s) s.cmdErr s hi
  cases hexec.symm.trans hexec'
  exact hhost.trans hhost'.symm

/-- The common checks do not read `cmd_err`, so a decode command does if its body does. -/
theorem decodeCommand_cmdErr {i : Instr} {allowed : List Txn} {body : State → Answer} {c : CmdErr}
    (hexec : ∀ s, exec i s = s.decodeCommand allowed body)
    (hbody : body { s with cmdErr := c } = body s) : exec i { s with cmdErr := c } = exec i s := by
  rw [hexec, hexec]
  obtain ⟨hst, hcmd⟩ | ⟨hst, ht, hcmd⟩ | ⟨hst, ht, hcmd⟩ := decodeCommand_cases s allowed body <;>
    rw [hcmd]
  · exact decodeCommand_of_not_complete (s := { s with cmdErr := c }) hst allowed body
  · exact decodeCommand_of_not_allowed (s := { s with cmdErr := c }) hst ht body
  · rw [decodeCommand_of_allowed (s := { s with cmdErr := c }) hst ht body, hbody]

theorem exec_decField_cmdErr (j : BitVec 8) (c : CmdErr) :
    exec (.decField j) { s with cmdErr := c } = exec (.decField j) s := by
  refine decodeCommand_cmdErr s (fun _ => rfl) ?_
  dsimp only [fieldRom]
  cases (if s.txn = .regs then s.cfg.regRom else s.cfg.battRom)[j.toNat]? <;> rfl

theorem exec_decWarnNext_cmdErr (c : CmdErr) :
    exec .decWarnNext { s with cmdErr := c } = exec .decWarnNext s := by
  refine decodeCommand_cmdErr s (fun _ => rfl) ?_
  dsimp only
  cases nextActive s.rxBuf s.warnPtr.toNat (s.cfg.warnRom.drop s.warnPtr.toNat) <;> rfl

theorem exec_decDevrec_cmdErr (r : BitVec 8) (j : BitVec 3) (c : CmdErr) :
    exec (.decDevrec r j) { s with cmdErr := c } = exec (.decDevrec r j) s := by
  by_cases hj : j ∈ recordKeys
  · refine decodeCommand_cmdErr s (fun _ => if_pos hj) ?_
    dsimp only
    cases (records (objects s.rxBuf s.decl))[r.toNat]? <;> rfl
  · rw [exec_decDevrec_of_no_key r hj, exec_decDevrec_of_no_key r hj]

theorem exec_clear_cmdErr (c : CmdErr) : exec .clear { s with cmdErr := c } = exec .clear s := by
  cases hst : s.st.active with
  | true => rw [exec_clear_of_active hst, exec_clear_of_active (s := { s with cmdErr := c }) hst]
  | false =>
    rw [exec_clear_of_not_active hst, exec_clear_of_not_active (s := { s with cmdErr := c }) hst]
    rfl

theorem startTransaction_cmdErr (x : Txn) (c : CmdErr) :
    ({ s with cmdErr := c } : State).startTransaction x = s.startTransaction x := by
  cases hst : s.st.active with
  | true =>
    rw [startTransaction_of_active x hst,
      startTransaction_of_active (s := { s with cmdErr := c }) x hst]
    rfl
  | false =>
    rw [startTransaction_of_not_active x hst,
      startTransaction_of_not_active (s := { s with cmdErr := c }) x hst]
    rfl

theorem exec_start_cmdErr (t : BitVec 3) (c : CmdErr) :
    exec (.start t) { s with cmdErr := c } = exec (.start t) s := by
  by_cases ht : t = 7#3
  · rw [ht, exec_start_reserved, exec_start_reserved]
  · obtain ⟨x, hx⟩ := exists_txnOfCode_eq_some t ht
    rw [exec_start_of_txnOfCode hx, exec_start_of_txnOfCode hx, startTransaction_cmdErr]

end

/-- Settles O51: a word's tests and its effect are those of the state with any other `cmd_err`. -/
theorem everyWordOverwritesCmdErr : Obligations.EveryWordOverwritesCmdErr := by
  intro i s c
  cases i with
  | reserved0 | reservedF | crcInit | crcFeed | crcVerify => rfl
  | start t => exact exec_start_cmdErr s t c
  | txFrameDevinfo | txFramePwrOn | txFramePwrOff | txFramePwrState | txFrameRegs | txFrameBatt
  | txFrameWarn => exact congrArg Host.Outcome.next (startTransaction_cmdErr s _ c)
  | clear => exact exec_clear_cmdErr s c
  | decPstate | decWarnRestart | decDevcount => exact decodeCommand_cmdErr s (fun _ => rfl) rfl
  | decField j => exact exec_decField_cmdErr s j c
  | decWarnNext => exact exec_decWarnNext_cmdErr s c
  | decDevrec r j => exact exec_decDevrec_cmdErr s r j c
  | txDone | rxByte | linkFail => exact exec_transportWord_cmdErr s rfl c

end Sys2Proof.Proofs.Independence

/-! PROOF. The configuration (44_decoder.md R128, R129, R134, R135): a ROM entry and its word determine each
other, the checks on an entry are those on its word, and an image is loaded exactly when all of them pass. -/

namespace Sys2Proof.Proofs.Configuration

open Machine Statement Proofs.RoundTrip

/-! ### Field words (R128) -/

/-- The three parts of a field word. -/
theorem fieldEntryWord_parts (e : FieldEntry) :
    (fieldEntryWord e).extractLsb' 16 16 = e.fid ∧ (fieldEntryWord e).extractLsb' 8 8 = e.off ∧
    (∀ i n, i + n ≤ 8 →
      (fieldEntryWord e).extractLsb' i n = (fieldKindBits e.kind).extractLsb' i n) := by
  refine ⟨?fid, ?off, fun i n hn => ?kind⟩ <;>
    simp (disch := omega) only [fieldEntryWord, BitVec.extractLsb'_append_eq_of_le,
      BitVec.extractLsb'_append_eq_of_add_le, BitVec.extractLsb'_eq_self, Nat.sub_self]

theorem fieldKindOfBits_fieldKindBits (kind : FieldKind) :
    fieldKindOfBits ((fieldKindBits kind).extractLsb' 6 2) ((fieldKindBits kind).extractLsb' 4 2)
      ((fieldKindBits kind).extractLsb' 0 4) = some kind := by
  cases kind with
  | u16 scale => revert scale; decide
  | u32 scale => revert scale; decide
  | bit pos => revert pos; decide

theorem fieldEntryOfWord_fieldEntryWord (e : FieldEntry) :
    fieldEntryOfWord (fieldEntryWord e) = some e := by
  obtain ⟨hfid, hoff, hkind⟩ := fieldEntryWord_parts e
  rw [fieldEntryOfWord, hfid, hoff, hkind 6 2 (by omega), hkind 4 2 (by omega),
    hkind 0 4 (by omega), fieldKindOfBits_fieldKindBits]
  rfl

theorem fieldKindOfBits_u16 (sc : BitVec 2) (b : BitVec 4) :
    fieldKindOfBits 0#2 sc b = if b = 0#4 then some (.u16 sc) else none := rfl

theorem fieldKindOfBits_u32 (sc : BitVec 2) (b : BitVec 4) :
    fieldKindOfBits 1#2 sc b = if b = 0#4 then some (.u32 sc) else none := rfl

theorem fieldKindOfBits_bit (sc : BitVec 2) (b : BitVec 4) :
    fieldKindOfBits 2#2 sc b = if sc = 0#2 then some (.bit b) else none := rfl

theorem fieldKindOfBits_reserved (sc : BitVec 2) (b : BitVec 4) :
    fieldKindOfBits 3#2 sc b = none := rfl

/-- The kinds that bits can describe (R128, R129). -/
theorem fieldKindOfBits_eq_some_iff {k sc : BitVec 2} {b : BitVec 4} {kind : FieldKind} :
    fieldKindOfBits k sc b = some kind ↔
      (k = 0#2 ∧ b = 0#4 ∧ .u16 sc = kind) ∨ (k = 1#2 ∧ b = 0#4 ∧ .u32 sc = kind) ∨
      (k = 2#2 ∧ sc = 0#2 ∧ .bit b = kind) := by
  have hk : k = 0#2 ∨ k = 1#2 ∨ k = 2#2 ∨ k = 3#2 := by
    revert k
    decide
  obtain rfl | rfl | rfl | rfl := hk <;>
    simp [fieldKindOfBits_u16, fieldKindOfBits_u32, fieldKindOfBits_bit, fieldKindOfBits_reserved]

theorem fieldEntryOfWord_eq_some_iff {w : BitVec 32} {e : FieldEntry} :
    fieldEntryOfWord w = some e ↔
      fieldKindOfBits (w.extractLsb' 6 2) (w.extractLsb' 4 2) (w.extractLsb' 0 4) = some e.kind ∧
      w.extractLsb' 16 16 = e.fid ∧ w.extractLsb' 8 8 = e.off := by
  obtain ⟨fid, off, kind⟩ := e
  simp only [fieldEntryOfWord, Option.map_eq_some_iff, FieldEntry.mk.injEq]
  constructor
  · rintro ⟨kind', hkind, hfid, hoff, rfl⟩
    exact ⟨hkind, hfid, hoff⟩
  · rintro ⟨hkind, hfid, hoff⟩
    exact ⟨kind, hkind, hfid, hoff, rfl⟩

theorem fieldKindBits_of_fieldKindOfBits {k sc : BitVec 2} {b : BitVec 4} {kind : FieldKind}
    (h : fieldKindOfBits k sc b = some kind) : fieldKindBits kind = k ++ sc ++ b := by
  obtain ⟨rfl, rfl, rfl⟩ | ⟨rfl, rfl, rfl⟩ | ⟨rfl, rfl, rfl⟩ := fieldKindOfBits_eq_some_iff.1 h <;>
    rfl

theorem fieldEntryWord_of_fieldEntryOfWord {w : BitVec 32} {e : FieldEntry}
    (h : fieldEntryOfWord w = some e) : fieldEntryWord e = w := by
  obtain ⟨hkind, hfid, hoff⟩ := fieldEntryOfWord_eq_some_iff.1 h
  rw [fieldEntryWord, fieldKindBits_of_fieldKindOfBits hkind, ← hfid, ← hoff]
  simp (disch := omega) only [BitVec.extractLsb'_append_extractLsb'_eq_extractLsb',
    BitVec.extractLsb'_eq_self]

/-! ### Warning words (R134) -/

/-- The parts of a warning word. -/
theorem warnEntryWord_parts (e : WarnEntry) :
    (warnEntryWord e).extractLsb' 32 16 = e.wid ∧ (warnEntryWord e).extractLsb' 16 16 = e.rid ∧
    (warnEntryWord e).extractLsb' 8 8 = e.off ∧ (warnEntryWord e).extractLsb' 4 4 = 0#4 ∧
    (warnEntryWord e).extractLsb' 0 4 = e.bit := by
  refine ⟨?wid, ?rid, ?off, ?unused, ?bit⟩ <;>
    simp (disch := omega) only [warnEntryWord, BitVec.extractLsb'_append_eq_of_le,
      BitVec.extractLsb'_append_eq_of_add_le, BitVec.extractLsb'_eq_self, Nat.sub_self]

theorem warnEntryOfWord_eq_some_iff {w : BitVec 48} {e : WarnEntry} :
    warnEntryOfWord w = some e ↔
      w.extractLsb' 4 4 = 0#4 ∧
      ⟨w.extractLsb' 32 16, w.extractLsb' 16 16, w.extractLsb' 8 8, w.extractLsb' 0 4⟩ = e := by
  simp [warnEntryOfWord]

theorem warnEntryOfWord_warnEntryWord (e : WarnEntry) :
    warnEntryOfWord (warnEntryWord e) = some e := by
  obtain ⟨hwid, hrid, hoff, hunused, hbit⟩ := warnEntryWord_parts e
  rw [warnEntryOfWord_eq_some_iff, hwid, hrid, hoff, hunused, hbit]
  exact ⟨rfl, rfl⟩

theorem warnEntryWord_of_warnEntryOfWord {w : BitVec 48} {e : WarnEntry}
    (h : warnEntryOfWord w = some e) : warnEntryWord e = w := by
  obtain ⟨hzero, rfl⟩ := warnEntryOfWord_eq_some_iff.1 h
  rw [warnEntryWord, ← hzero]
  simp (disch := omega) only [BitVec.extractLsb'_append_extractLsb'_eq_extractLsb',
    BitVec.extractLsb'_eq_self]

/-- Settles O43: the parts of a word are the fields of the entry, in both directions. -/
theorem romEntriesReadBackFromTheirWords : Obligations.RomEntriesReadBackFromTheirWords :=
  ⟨fieldEntryOfWord_fieldEntryWord, fun _ _ => fieldEntryWord_of_fieldEntryOfWord,
    warnEntryOfWord_warnEntryWord, fun _ _ => warnEntryWord_of_warnEntryOfWord⟩

/-! ### The checks on a word and on its entry (R129, R135) -/

theorem fieldWordOk_iff {n : Nat} {w : BitVec 32} :
    FieldWordOk n w ↔ ∃ e, fieldEntryOfWord w = some e ∧ e.wellFormed n = true := by
  simp only [fieldEntryOfWord_eq_some_iff, fieldKindOfBits_eq_some_iff, FieldEntry.wellFormed,
    decide_eq_true_eq]
  constructor
  · rintro (⟨hk, hb, hoff⟩ | ⟨hk, hb, hoff⟩ | ⟨hk, hsc, hoff⟩)
    · exact ⟨⟨_, _, _⟩, ⟨.inl ⟨BitVec.eq_of_toNat_eq hk, BitVec.eq_of_toNat_eq hb, rfl⟩, rfl, rfl⟩,
        hoff⟩
    · exact ⟨⟨_, _, _⟩,
        ⟨.inr (.inl ⟨BitVec.eq_of_toNat_eq hk, BitVec.eq_of_toNat_eq hb, rfl⟩), rfl, rfl⟩, hoff⟩
    · exact ⟨⟨_, _, _⟩,
        ⟨.inr (.inr ⟨BitVec.eq_of_toNat_eq hk, BitVec.eq_of_toNat_eq hsc, rfl⟩), rfl, rfl⟩, hoff⟩
  · rintro ⟨⟨fid, off, kind⟩, ⟨hkind, rfl, rfl⟩, hoff⟩
    obtain ⟨hk, hb, rfl⟩ | ⟨hk, hb, rfl⟩ | ⟨hk, hsc, rfl⟩ := hkind
    · exact .inl ⟨congrArg BitVec.toNat hk, congrArg BitVec.toNat hb, hoff⟩
    · exact .inr (.inl ⟨congrArg BitVec.toNat hk, congrArg BitVec.toNat hb, hoff⟩)
    · exact .inr (.inr ⟨congrArg BitVec.toNat hk, congrArg BitVec.toNat hsc, hoff⟩)

theorem warnWordOk_iff {w : BitVec 48} :
    WarnWordOk w ↔ ∃ e, warnEntryOfWord w = some e ∧ e.wellFormed = true := by
  simp only [warnEntryOfWord_eq_some_iff, WarnEntry.wellFormed, decide_eq_true_eq]
  constructor
  · rintro ⟨hzero, hoff⟩
    exact ⟨_, ⟨BitVec.eq_of_toNat_eq hzero, rfl⟩, hoff⟩
  · rintro ⟨_, ⟨hzero, rfl⟩, hoff⟩
    exact ⟨congrArg BitVec.toNat hzero, hoff⟩

/-! ### Reading a whole ROM -/

theorem mapM_cons_eq_some_iff {α β : Type} {f : α → Option β} {a : α} {as : List α} {bs : List β} :
    (a :: as).mapM f = some bs ↔
      ∃ b bs', f a = some b ∧ as.mapM f = some bs' ∧ b :: bs' = bs := by
  simp [List.mapM_cons, Option.bind_eq_some_iff]

/-- A ROM of entries that pass `p` is read exactly when each word gives such an entry. -/
theorem exists_mapM_iff {α β : Type} {f : α → Option β} {p : β → Bool} {as : List α} :
    (∃ bs, as.mapM f = some bs ∧ bs.all p = true) ↔ ∀ a ∈ as, ∃ b, f a = some b ∧ p b = true := by
  induction as with
  | nil => simp
  | cons a as ih =>
    rw [List.forall_mem_cons, ← ih]
    constructor
    · rintro ⟨_, hread, hall⟩
      obtain ⟨b, bs, hb, hbs, rfl⟩ := mapM_cons_eq_some_iff.1 hread
      rw [List.all_cons, Bool.and_eq_true] at hall
      obtain ⟨hpb, hpbs⟩ := hall
      exact ⟨⟨b, hb, hpb⟩, bs, hbs, hpbs⟩
    · rintro ⟨⟨b, hb, hpb⟩, bs, hbs, hpbs⟩
      exact ⟨b :: bs, mapM_cons_eq_some_iff.2 ⟨b, bs, hb, hbs, rfl⟩, by simp [hpb, hpbs]⟩

/-- What writes an entry back as its word writes the ROM back. -/
theorem map_of_mapM {α β : Type} {f : α → Option β} {g : β → α}
    (hg : ∀ a b, f a = some b → g b = a) {as : List α} {bs : List β} (h : as.mapM f = some bs) :
    bs.map g = as := by
  induction as generalizing bs with
  | nil => cases h; rfl
  | cons a as ih =>
    obtain ⟨b, bs, hb, hbs, rfl⟩ := mapM_cons_eq_some_iff.1 h
    rw [List.map_cons, hg a b hb, ih hbs]

theorem length_of_mapM {α β : Type} {f : α → Option β} {g : β → α}
    (hg : ∀ a b, f a = some b → g b = a) {as : List α} {bs : List β} (h : as.mapM f = some bs) :
    bs.length = as.length := by
  rw [← map_of_mapM hg h, List.length_map]

/-- A ROM of field words that pass R129. -/
theorem fieldRom_iff {n : Nat} {words : List (BitVec 32)} :
    (∃ rom, words.mapM fieldEntryOfWord = some rom ∧ fieldRomWellFormed n rom = true) ↔
      words.length ≤ 256 ∧ ∀ w ∈ words, FieldWordOk n w := by
  simp only [fieldWordOk_iff, ← exists_mapM_iff, fieldRomWellFormed, Bool.and_eq_true,
    decide_eq_true_eq]
  constructor
  · rintro ⟨rom, hrom, hlen, hall⟩
    rw [length_of_mapM (fun _ _ => fieldEntryWord_of_fieldEntryOfWord) hrom] at hlen
    exact ⟨hlen, rom, hrom, hall⟩
  · rintro ⟨hlen, rom, hrom, hall⟩
    rw [← length_of_mapM (fun _ _ => fieldEntryWord_of_fieldEntryOfWord) hrom] at hlen
    exact ⟨rom, hrom, hlen, hall⟩

/-- A ROM of warning words that pass R135. -/
theorem warnRom_iff {words : List (BitVec 48)} :
    (∃ rom, words.mapM warnEntryOfWord = some rom ∧ warnRomWellFormed rom = true) ↔
      words.length ≤ 256 ∧ ∀ w ∈ words, WarnWordOk w := by
  simp only [warnWordOk_iff, ← exists_mapM_iff, warnRomWellFormed, Bool.and_eq_true,
    decide_eq_true_eq]
  constructor
  · rintro ⟨rom, hrom, hlen, hall⟩
    rw [length_of_mapM (fun _ _ => warnEntryWord_of_warnEntryOfWord) hrom] at hlen
    exact ⟨hlen, rom, hrom, hall⟩
  · rintro ⟨hlen, rom, hrom, hall⟩
    rw [← length_of_mapM (fun _ _ => warnEntryWord_of_warnEntryOfWord) hrom] at hlen
    exact ⟨rom, hrom, hlen, hall⟩

/-! ### Loading an image (R163) -/

theorem configDataOfImage_eq_some_iff {img : ConfigImage} {d : ConfigData} :
    configDataOfImage img = some d ↔
      img.regRom.mapM fieldEntryOfWord = some d.regRom ∧
      img.battRom.mapM fieldEntryOfWord = some d.battRom ∧
      img.warnRom.mapM warnEntryOfWord = some d.warnRom ∧ img.rxbufCap = d.rxbufCap := by
  obtain ⟨cap, reg, batt, warn⟩ := d
  simp [configDataOfImage, Option.bind_eq_some_iff]

theorem loadConfig_eq_some_iff {img : ConfigImage} {c : Config} :
    loadConfig img = some c ↔ configDataOfImage img = some c.toConfigData := by
  obtain ⟨d, hwf⟩ := c
  unfold loadConfig
  cases himg : configDataOfImage img with
  | none => simp
  | some d' =>
    by_cases hwf' : d'.wellFormed = true
    · simp [hwf']
    · have hne : d' ≠ d := fun h => hwf' (h ▸ hwf)
      simp [hwf', hne]

theorem configData_wellFormed_iff {d : ConfigData} :
    d.wellFormed = true ↔
      (258 ≤ d.rxbufCap ∧ d.rxbufCap ≤ 65543) ∧ fieldRomWellFormed 86 d.regRom = true ∧
      fieldRomWellFormed 66 d.battRom = true ∧ warnRomWellFormed d.warnRom = true := by
  simp only [ConfigData.wellFormed, Bool.and_eq_true, decide_eq_true_eq, and_assoc]
  rfl

theorem imageOk_iff {img : ConfigImage} : ImageOk img ↔ ∃ c, loadConfig img = some c := by
  constructor
  · rintro ⟨hcap, hreglen, hbattlen, hwarnlen, hreg, hbatt, hwarn⟩
    obtain ⟨reg, hreg, hregok⟩ := fieldRom_iff.2 ⟨hreglen, hreg⟩
    obtain ⟨batt, hbatt, hbattok⟩ := fieldRom_iff.2 ⟨hbattlen, hbatt⟩
    obtain ⟨warn, hwarn, hwarnok⟩ := warnRom_iff.2 ⟨hwarnlen, hwarn⟩
    have hwf : (ConfigData.mk img.rxbufCap reg batt warn).wellFormed = true :=
      configData_wellFormed_iff.2 ⟨hcap, hregok, hbattok, hwarnok⟩
    exact ⟨⟨_, hwf⟩, loadConfig_eq_some_iff.2
      (configDataOfImage_eq_some_iff.2 ⟨hreg, hbatt, hwarn, rfl⟩)⟩
  · rintro ⟨c, hc⟩
    obtain ⟨hreg, hbatt, hwarn, hcap⟩ :=
      configDataOfImage_eq_some_iff.1 (loadConfig_eq_some_iff.1 hc)
    obtain ⟨hcapok, hregok, hbattok, hwarnok⟩ := configData_wellFormed_iff.1 c.wf
    obtain ⟨hreglen, hreg⟩ := fieldRom_iff.1 ⟨_, hreg, hregok⟩
    obtain ⟨hbattlen, hbatt⟩ := fieldRom_iff.1 ⟨_, hbatt, hbattok⟩
    obtain ⟨hwarnlen, hwarn⟩ := warnRom_iff.1 ⟨_, hwarn, hwarnok⟩
    exact ⟨hcap ▸ hcapok, hreglen, hbattlen, hwarnlen, hreg, hbatt, hwarn⟩

/-- Settles O42: the loader answers a configuration exactly for a well-formed image, and the words of its
entries are the image's. -/
theorem illFormedConfigurationsAreRefused : Obligations.IllFormedConfigurationsAreRefused := by
  intro s img
  obtain ⟨c, hload, hconf⟩ | ⟨hload, hconf⟩ := configure_cases s img
  · have hok : ImageOk img := imageOk_iff.2 ⟨c, hload⟩
    obtain ⟨hreg, hbatt, hwarn, hcap⟩ :=
      configDataOfImage_eq_some_iff.1 (loadConfig_eq_some_iff.1 hload)
    exact ⟨fun hno => absurd hok hno, fun _ => ⟨c, hconf, hcap.symm,
      map_of_mapM (fun _ _ => fieldEntryWord_of_fieldEntryOfWord) hreg,
      map_of_mapM (fun _ _ => fieldEntryWord_of_fieldEntryOfWord) hbatt,
      map_of_mapM (fun _ _ => warnEntryWord_of_warnEntryOfWord) hwarn⟩⟩
  · refine ⟨fun _ => hconf, fun hok => ?_⟩
    obtain ⟨c, hc⟩ := imageOk_iff.1 hok
    cases hload.symm.trans hc

end Sys2Proof.Proofs.Configuration

/-! PROOF. The key/value strings of a device record (44_decoder.md R143): what a segment is, that the segments
rise through the value and none is left out, and that the last one with a key gives the field. -/

namespace Sys2Proof.Proofs.Records

open Machine

/-! ### The segments of a value -/

/-- A stretch of the bytes from `lo` to `hi` between two semicolons, or between one and an end. -/
structure IsSegment (m : Memory) (lo hi : Nat) (seg : Slice) : Prop where
  lower : lo ≤ seg.start
  upper : seg.start + seg.len ≤ hi
  begins : seg.start = lo ∨ m.read (seg.start - 1) = semicolon
  ends : seg.start + seg.len = hi ∨ m.read (seg.start + seg.len) = semicolon
  inner : ∀ j, seg.start ≤ j → j < seg.start + seg.len → m.read j ≠ semicolon

theorem segmentsFrom_of_semicolon {m : Memory} {pos : Nat} (h : m.read pos = semicolon)
    (start n : Nat) :
    segmentsFrom m start pos (n + 1) =
      ⟨start, pos - start⟩ :: segmentsFrom m (pos + 1) (pos + 1) n :=
  if_pos h

theorem segmentsFrom_of_not_semicolon {m : Memory} {pos : Nat} (h : m.read pos ≠ semicolon)
    (start n : Nat) : segmentsFrom m start pos (n + 1) = segmentsFrom m start (pos + 1) n :=
  if_neg h

/-- The segment under way, closed at `pos`. -/
theorem isSegment_of_closed {m : Memory} {start pos hi : Nat} (hle : start ≤ pos) (hhi : pos ≤ hi)
    (hfree : ∀ j, start ≤ j → j < pos → m.read j ≠ semicolon)
    (hend : pos = hi ∨ m.read pos = semicolon) : IsSegment m start hi ⟨start, pos - start⟩ := by
  have hpos : start + (pos - start) = pos := by omega
  exact ⟨le_rfl, hpos.trans_le hhi, .inl rfl, hpos.symm ▸ hend, hpos.symm ▸ hfree⟩

/-- A segment behind a semicolon is one of the whole. -/
theorem IsSegment.of_rest {m : Memory} {lo pos hi : Nat} {seg : Slice}
    (h : IsSegment m (pos + 1) hi seg) (hlo : lo ≤ pos) (hsemi : m.read pos = semicolon) :
    IsSegment m lo hi seg where
  lower := by have := h.lower; omega
  upper := h.upper
  begins := .inr (h.begins.elim (fun hstart => by rw [hstart, Nat.add_sub_cancel, hsemi]) id)
  ends := h.ends
  inner := h.inner

theorem isSegment_of_mem {m : Memory} {start pos n : Nat} {seg : Slice} (hle : start ≤ pos)
    (hfree : ∀ j, start ≤ j → j < pos → m.read j ≠ semicolon)
    (hseg : seg ∈ segmentsFrom m start pos n) : IsSegment m start (pos + n) seg := by
  induction n generalizing start pos with
  | zero =>
    obtain rfl := List.mem_singleton.1 hseg
    exact isSegment_of_closed hle le_rfl hfree (.inl rfl)
  | succ n ih =>
    by_cases hsemi : m.read pos = semicolon
    · rw [segmentsFrom_of_semicolon hsemi] at hseg
      obtain rfl | hseg := List.mem_cons.1 hseg
      · exact isSegment_of_closed hle (by omega) hfree (.inr hsemi)
      · have hrest := ih le_rfl (fun j hj hj' => by omega) hseg
        rw [Nat.add_right_comm] at hrest
        exact hrest.of_rest hle hsemi
    · rw [segmentsFrom_of_not_semicolon hsemi] at hseg
      have hfree' : ∀ j, start ≤ j → j < pos + 1 → m.read j ≠ semicolon := fun j hj hj' => by
        obtain rfl | hlt := Nat.eq_or_lt_of_le (Nat.lt_succ_iff.1 hj')
        · exact hsemi
        · exact hfree j hj hlt
      have hrest := ih (by omega) hfree' hseg
      rwa [Nat.add_right_comm] at hrest

theorem segmentsFrom_sorted (m : Memory) {start pos : Nat} (n : Nat) (hle : start ≤ pos) :
    (segmentsFrom m start pos n).Pairwise fun a b => a.start < b.start := by
  induction n generalizing start pos with
  | zero => exact List.pairwise_singleton _ _
  | succ n ih =>
    by_cases hsemi : m.read pos = semicolon
    · rw [segmentsFrom_of_semicolon hsemi, List.pairwise_cons]
      refine ⟨fun seg hseg => ?_, ih le_rfl⟩
      have hlower := (isSegment_of_mem le_rfl (fun j hj hj' => by omega) hseg).lower
      change start < seg.start
      omega
    · rw [segmentsFrom_of_not_semicolon hsemi]
      exact ih (by omega)

/-- A segment begins at the start and behind every semicolon. -/
theorem exists_mem_segmentsFrom {m : Memory} {start pos n q : Nat}
    (hq : q = start ∨ ∃ r, pos ≤ r ∧ r < pos + n ∧ m.read r = semicolon ∧ q = r + 1) :
    ∃ seg ∈ segmentsFrom m start pos n, seg.start = q := by
  induction n generalizing start pos with
  | zero =>
    obtain rfl | ⟨r, hle, hlt, -⟩ := hq
    · exact ⟨_, List.mem_singleton_self _, rfl⟩
    · omega
  | succ n ih =>
    by_cases hsemi : m.read pos = semicolon
    · rw [segmentsFrom_of_semicolon hsemi]
      obtain rfl | ⟨r, hle, hlt, hr, rfl⟩ := hq
      · exact ⟨_, List.mem_cons_self, rfl⟩
      · have hrest : r + 1 = pos + 1 ∨
            ∃ r', pos + 1 ≤ r' ∧ r' < pos + 1 + n ∧ m.read r' = semicolon ∧ r + 1 = r' + 1 := by
          obtain rfl | hlt' := Nat.eq_or_lt_of_le hle
          · exact .inl rfl
          · exact .inr ⟨r, hlt', by omega, hr, rfl⟩
        obtain ⟨seg, hseg, hstart⟩ := ih hrest
        exact ⟨seg, List.mem_cons_of_mem _ hseg, hstart⟩
    · rw [segmentsFrom_of_not_semicolon hsemi]
      refine ih (hq.imp_right ?_)
      rintro ⟨r, hle, hlt, hr, rfl⟩
      have hne : r ≠ pos := fun heq => hsemi (heq ▸ hr)
      exact ⟨r, by omega, by omega, hr, rfl⟩

/-! ### The entry of a segment -/

/-- The ASCII digit of a key. -/
def keyByte (k : BitVec 3) : Byte := 0x30#8 + k.setWidth 8

theorem keyOfByte_keyByte : ∀ k ∈ recordKeys, keyOfByte (keyByte k) = some k := by
  decide

theorem eq_keyByte_of_keyOfByte {b : Byte} {k : BitVec 3} (h : keyOfByte b = some k) :
    b = keyByte k := by
  unfold keyOfByte at h
  split at h
  case isTrue hrange =>
    have hb : b = 0x31#8 ∨ b = 0x32#8 ∨ b = 0x33#8 ∨ b = 0x34#8 ∨ b = 0x35#8 ∨ b = 0x36#8 := by
      bv_omega
    cases h
    obtain rfl | rfl | rfl | rfl | rfl | rfl := hb <;> rfl
  case isFalse => cases h

theorem keyByte_ne : ∀ k ∈ recordKeys, keyByte k ≠ semicolon ∧ keyByte k ≠ equalsSign := by
  decide

theorem firstEquals_eq_one_iff {m : Memory} {p n : Nat} :
    firstEquals m p n = some 1 ↔
      2 ≤ n ∧ m.read p ≠ equalsSign ∧ m.read (p + 1) = equalsSign := by
  match n with
  | 0 => simp [firstEquals]
  | 1 => by_cases h : m.read p = equalsSign <;> simp [firstEquals, h]
  | n + 2 =>
    by_cases h : m.read p = equalsSign <;> by_cases h' : m.read (p + 1) = equalsSign <;>
      simp [firstEquals, h, h']

theorem segmentEntry_of_equals {m : Memory} {seg : Slice}
    (h : firstEquals m seg.start seg.len = some 1) :
    segmentEntry m seg =
      (keyOfByte (m.read seg.start)).map fun k => (k, ⟨seg.start + 2, seg.len - 2⟩) := by
  simp only [segmentEntry, h]

theorem segmentEntry_of_no_equals {m : Memory} {seg : Slice}
    (h : firstEquals m seg.start seg.len ≠ some 1) : segmentEntry m seg = none := by
  unfold segmentEntry
  split
  · contradiction
  · rfl

/-- A segment gives a key when the key's digit and an equals sign stand at its start. -/
theorem segmentEntry_eq_some_iff {m : Memory} {seg f : Slice} {k : BitVec 3}
    (hk : k ∈ recordKeys) :
    segmentEntry m seg = some (k, f) ↔
      2 ≤ seg.len ∧ m.read seg.start = keyByte k ∧ m.read (seg.start + 1) = equalsSign ∧
        ⟨seg.start + 2, seg.len - 2⟩ = f := by
  obtain ⟨-, hdigit⟩ := keyByte_ne k hk
  by_cases hfirst : firstEquals m seg.start seg.len = some 1
  · obtain ⟨hlen, -, heq⟩ := firstEquals_eq_one_iff.1 hfirst
    rw [segmentEntry_of_equals hfirst, Option.map_eq_some_iff]
    constructor
    · rintro ⟨k', hkey, h⟩
      cases h
      exact ⟨hlen, eq_keyByte_of_keyOfByte hkey, heq, rfl⟩
    · rintro ⟨-, hkey, -, rfl⟩
      exact ⟨k, hkey ▸ keyOfByte_keyByte k hk, rfl⟩
  · rw [segmentEntry_of_no_equals hfirst]
    refine ⟨fun h => (by cases h), fun ⟨hlen, hkey, heq, _⟩ => ?_⟩
    exact absurd (firstEquals_eq_one_iff.2 ⟨hlen, hkey ▸ hdigit, heq⟩) hfirst

/-! ### The entries of a record -/

theorem mem_parseRecord_iff {m : Memory} {v : Slice} {e : BitVec 3 × Slice} :
    e ∈ parseRecord m v ↔ ∃ seg ∈ segments m v, segmentEntry m seg = some e :=
  List.mem_filterMap

theorem segmentEntry_start {m : Memory} {seg : Slice} {e : BitVec 3 × Slice}
    (h : segmentEntry m seg = some e) : e.2.start = seg.start + 2 := by
  unfold segmentEntry at h
  split at h
  · obtain ⟨k, -, rfl⟩ := Option.map_eq_some_iff.1 h
    rfl
  · cases h

theorem parseRecord_sorted (m : Memory) (v : Slice) :
    (parseRecord m v).Pairwise fun a b => a.2.start < b.2.start := by
  refine (segmentsFrom_sorted m v.len le_rfl).filterMap _ fun a b hab x hx y hy => ?_
  rw [segmentEntry_start hx, segmentEntry_start hy]
  exact Nat.add_lt_add_right hab 2

/-- The field found is an entry, and no entry of its key lies behind it. -/
theorem recordField_eq_some {m : Memory} {v f : Slice} {k : BitVec 3}
    (h : recordField m v k = some f) :
    (k, f) ∈ parseRecord m v ∧ ∀ g, (k, g) ∈ parseRecord m v → g.start ≤ f.start := by
  obtain ⟨⟨k', f'⟩, hfind, rfl⟩ := Option.map_eq_some_iff.1 h
  obtain ⟨hk, later, earlier, hsplit, hlater⟩ := List.find?_eq_some_iff_append.1 hfind
  obtain rfl : k' = k := beq_iff_eq.1 hk
  have hmem : ∀ e, e ∈ parseRecord m v ↔ e ∈ later ∨ e = (k', f') ∨ e ∈ earlier := fun e => by
    rw [← List.mem_reverse, hsplit, List.mem_append, List.mem_cons]
  have hsorted := List.pairwise_reverse.2 (parseRecord_sorted m v)
  rw [hsplit] at hsorted
  refine ⟨(hmem _).2 (.inr (.inl rfl)), fun g hg => ?_⟩
  obtain hg | hg | hg := (hmem _).1 hg
  · simpa using hlater _ hg
  · cases hg
    exact le_rfl
  · exact ((List.pairwise_cons.1 (List.pairwise_append.1 hsorted).2.1).1 _ hg).le

theorem recordField_isSome {m : Memory} {v f : Slice} {k : BitVec 3}
    (h : (k, f) ∈ parseRecord m v) : (recordField m v k).isSome = true := by
  rw [recordField, Option.isSome_map, List.find?_isSome]
  exact ⟨(k, f), List.mem_reverse.2 h, beq_self_eq_true k⟩

/-! ### R143 -/

/-- A segment of the value that starts with a key's digit and an equals sign has an entry. -/
theorem exists_mem_parseRecord {m : Memory} {v : Slice} {k : BitVec 3} {q : Nat}
    (hk : k ∈ recordKeys) (hlo : v.start ≤ q) (hhi : q + 1 < v.start + v.len)
    (hbegin : q = v.start ∨ m.read (q - 1) = semicolon) (hkey : m.read q = keyByte k)
    (heq : m.read (q + 1) = equalsSign) : ∃ len, (k, ⟨q + 2, len⟩) ∈ parseRecord m v := by
  have hq : q = v.start ∨
      ∃ r, v.start ≤ r ∧ r < v.start + v.len ∧ m.read r = semicolon ∧ q = r + 1 := by
    by_cases hstart : q = v.start
    · exact .inl hstart
    · exact .inr ⟨q - 1, by omega, by omega, hbegin.resolve_left hstart, by omega⟩
  obtain ⟨seg, hseg, rfl⟩ := exists_mem_segmentsFrom hq
  have hends := (isSegment_of_mem le_rfl (fun j hj hj' => by omega) hseg).ends
  have hkey0 : seg.len ≠ 0 := fun hzero => by
    rw [hzero, Nat.add_zero, hkey] at hends
    exact hends.elim (by omega) (keyByte_ne k hk).1
  have heq1 : seg.len ≠ 1 := fun hone => by
    rw [hone, heq] at hends
    exact hends.elim (by omega) (by decide)
  exact ⟨_, mem_parseRecord_iff.2 ⟨seg, hseg,
    (segmentEntry_eq_some_iff hk).2 ⟨by omega, hkey, heq, rfl⟩⟩⟩

/-- Settles O31: the field is the entry of a segment and the last one of its key, and a segment that starts
with the key has an entry. -/
theorem recordFieldIsTheLastSegmentWithItsKey :
    Obligations.RecordFieldIsTheLastSegmentWithItsKey := by
  refine fun m v k hk => ⟨fun f hf => ?found, fun q hlo hhi hbegin hkey heq => ?present⟩
  case found =>
    obtain ⟨hmem, hlast⟩ := recordField_eq_some hf
    obtain ⟨seg, hseg, hentry⟩ := mem_parseRecord_iff.1 hmem
    obtain ⟨hlen, hkey, heq, rfl⟩ := (segmentEntry_eq_some_iff hk).1 hentry
    obtain ⟨hlower, hupper, hbegins, hends, hinner⟩ :=
      isSegment_of_mem le_rfl (fun j hj hj' => by omega) hseg
    have hend : seg.start + 2 + (seg.len - 2) = seg.start + seg.len := by omega
    simp only [hend]
    refine ⟨by omega, hupper, hkey, heq, ?_, hends, fun j hj hj' => hinner j (by omega) hj',
      fun q hq hhi hsemi hkey' heq' => ?_⟩
    · exact hbegins.imp_left fun hstart => by rw [hstart]
    · obtain ⟨len, hlater⟩ :=
        exists_mem_parseRecord hk (by omega) hhi (.inr hsemi) hkey' heq'
      have hle : q + 2 ≤ seg.start + 2 := hlast _ hlater
      omega
  case present =>
    obtain ⟨len, hmem⟩ := exists_mem_parseRecord hk hlo hhi hbegin hkey heq
    exact recordField_isSome hmem

end Sys2Proof.Proofs.Records

/-! PROOF. Whole responses (30_encoding.md R64 to R67): the bytes of a response delivered one after the other,
stage by stage, from the first byte to the terminal state. -/

namespace Sys2Proof.Proofs.Responses

open Machine Statement Proofs.Checksum Proofs.Parser Proofs.RegisterDecoder Proofs.Effects
open Proofs.Invariants Proofs.StateInvariant Proofs.DecodeCheck

/-! ### Runs of RX_BYTE words -/

theorem receive_nil (s : State) : receive [] s = .next s := rfl

theorem receive_cons {b : Byte} {s t : State} (h : exec (.rxByte b) s = .next t) (bs : List Byte) :
    receive (b :: bs) s = receive bs t :=
  execAll_cons_of_next h _

theorem receive_append {as : List Byte} {s t : State} (h : receive as s = .next t)
    (bs : List Byte) : receive (as ++ bs) s = receive bs t := by
  rw [receive, List.map_append]
  exact execAll_append_of_next h _

/-! ### The bytes taken -/

/-- `t` has taken the bytes `bs` of the response to `s`'s request, all of them stored, and emitted nothing
since. -/
structure Taken (s : State) (bs : List Byte) (t : State) : Prop where
  txn : t.txn = s.txn
  txBuf : t.txBuf = s.txBuf
  cfg : t.cfg = s.cfg
  events : t.events = s.events
  csIdx : t.csIdx = false
  memory : t.rxBuf.wf = true
  ovf : t.ovf = false
  length : t.rxLen.toNat = bs.length
  received : t.received = bs
  crc : t.chkCrc = crc16 bs

theorem taken_nil {s : State} (h : AtFirstByte s) : Taken s [] s := by
  have hlen : s.rxLen.toNat = 0 := by rw [h.rxLen]; rfl
  have hreceived : s.received = [] := by rw [State.received, hlen, Memory.bytes_zero]
  exact ⟨rfl, rfl, rfl, rfl, h.csIdx, h.memory, h.ovf, hlen, hreceived, h.chkCrc⟩

theorem Taken.events_close {s t : State} {bs : List Byte} (h : Taken s bs t) :
    t.events ++ [.close] = s.events ++ [.close] := by
  rw [h.events]

theorem taken_acceptByte {s t : State} {bs : List Byte} (h : Taken s bs t)
    (hroom : bs.length < s.cfg.rxbufCap) (b : Byte) : Taken s (bs ++ [b]) (t.acceptByte b) := by
  have hcap : s.cfg.rxbufCap ≤ 65543 := (rxbufCap_bounds s.cfg).2
  have hroom' : t.rxLen.toNat < t.cfg.rxbufCap := by rw [h.length, h.cfg]; exact hroom
  obtain ⟨hovf, hbuf⟩ := acceptByte_of_room b hroom'
  exact {
    txn := h.txn
    txBuf := h.txBuf
    cfg := h.cfg
    events := h.events
    csIdx := h.csIdx
    memory := by rw [hbuf]; exact Memory.write_wf _ b h.memory
    ovf := hovf.trans h.ovf
    length := by
      rw [State.acceptByte_rxLen, rxLen_succ_toNat (by rw [h.length]; omega), h.length,
        List.length_append, List.length_singleton]
    received := by rw [received_acceptByte b h.memory hroom', h.received]
    crc := by rw [State.acceptByte_chkCrc, h.crc, crc16_snoc] }

/-! ### The header (R105, R106) -/

/-- The header `bs` is under way. -/
structure InHeader (s : State) (bs : List Byte) (t : State) : Prop extends Taken s bs t where
  st : t.st = .awaitingHeader
  hdrIdx : t.hdrIdx.toNat = bs.length

/-- A header fits every RX buffer. -/
theorem hdrLen_lt_rxbufCap (s : State) : hdrLen s.txn < s.cfg.rxbufCap := by
  have hle := hdrLen_le s.txn
  have hcap := (rxbufCap_bounds s.cfg).1
  omega

theorem inHeader_byte {s t : State} {bs : List Byte} (h : InHeader s bs t)
    (hlen : bs.length + 1 < hdrLen s.txn) (b : Byte) :
    ∃ u, exec (.rxByte b) t = .next u ∧ InHeader s (bs ++ [b]) u := by
  have hroom := hdrLen_lt_rxbufCap s
  have hn : t.hdrIdx.toNat + 1 < hdrLen t.txn := by rw [h.hdrIdx, h.txn]; exact hlen
  have htaken := taken_acceptByte h.toTaken (by omega) b
  refine ⟨{ headerByteTaken t b with cmdErr := .ok }, ?_, { htaken with }, h.st, ?_⟩
  · rw [exec_rxByte_of_awaitingHeader b h.st, rxHeader_of_not_last hn]
  · rw [List.length_append, List.length_singleton, ← h.hdrIdx]
    exact hdrIdx_succ_toNat hn

theorem receive_header {s : State} (h : AtFirstByte s) {bs : List Byte}
    (hlen : bs.length < hdrLen s.txn) : ∃ t, receive bs s = .next t ∧ InHeader s bs t := by
  induction bs using List.reverseRecOn with
  | nil => exact ⟨s, rfl, taken_nil h, h.st, by rw [h.hdrIdx]; rfl⟩
  | append_singleton bs b ih =>
    rw [List.length_append, List.length_singleton] at hlen
    obtain ⟨t, hrun, ht⟩ := ih (by omega)
    obtain ⟨u, hexec, hu⟩ := inHeader_byte ht hlen b
    exact ⟨u, by rw [receive_append hrun, receive_cons hexec, receive_nil], hu⟩

/-- The last header byte meets the whole header. -/
theorem receive_whole_header {s : State} (h : AtFirstByte s) {bs : List Byte} (b : Byte)
    (hlen : bs.length + 1 = hdrLen s.txn) :
    ∃ t, receive (bs ++ [b]) s = .next (t.headerDone (bs ++ [b]) b) ∧ Taken s (bs ++ [b]) t := by
  obtain ⟨t, hrun, ht⟩ := receive_header h (bs := bs) (by omega)
  have hroom := hdrLen_lt_rxbufCap s
  have hheader : receivedHeader t b = bs ++ [b] := by
    have hcount : hdrLen t.txn - 1 = t.rxLen.toNat := by rw [ht.txn, ht.length]; omega
    rw [receivedHeader, hcount]
    exact congrArg (· ++ [b]) ht.received
  have hn : hdrLen t.txn ≤ t.hdrIdx.toNat + 1 := by rw [ht.txn, ht.hdrIdx]; omega
  refine ⟨headerByteTaken t b, ?_, { taken_acceptByte ht.toTaken (by omega) b with }⟩
  rw [receive_append hrun, receive_cons (exec_rxByte_of_awaitingHeader b ht.st), receive_nil,
    rxHeader_of_last hn, hheader]

/-! ### A write's response (R66) -/

theorem hdrLen_of_isWrite {t : Txn} (h : isWrite t = true) : hdrLen t = 8 := by
  cases t with
  | pwrOn | pwrOff => rfl
  | devinfo | pwrState | regs | batt | warn => cases h

theorem headerMatches_of_isWrite {t : Txn} {txBuf : Vector Byte 8} {bs : List Byte}
    (h : isWrite t = true) : HeaderMatches t txBuf bs ↔ bs = txBuf.toList := by
  cases t with
  | pwrOn | pwrOff => rfl
  | devinfo | pwrState | regs | batt | warn => cases h

/-- Settles O59: the header is the whole response, and it matches when it is the request. -/
theorem writeCompletesOnTheExactEchoOnly : Obligations.WriteCompletesOnTheExactEchoOnly := by
  intro s bs hs hw hlen
  obtain rfl | ⟨bs, b, rfl⟩ := List.eq_nil_or_concat bs
  · cases hlen
  rw [List.concat_eq_append] at hlen ⊢
  have hwhole : bs.length + 1 = hdrLen s.txn := by
    rw [hdrLen_of_isWrite hw, ← hlen, List.length_append, List.length_singleton]
  obtain ⟨t, hrun, ht⟩ := receive_whole_header hs b hwhole
  have hw' : isWrite t.txn = true := ht.txn ▸ hw
  have hmatch : HeaderMatches t.txn t.txBuf (bs ++ [b]) ↔ bs ++ [b] = s.txBuf.toList := by
    rw [headerMatches_of_isWrite hw', ht.txBuf]
  by_cases hecho : bs ++ [b] = s.txBuf.toList
  · rw [headerDone_of_isWrite b (hmatch.2 hecho) hw'] at hrun
    exact ⟨_, hrun, ht.received, ht.events_close, fun _ => rfl,
      fun hne => absurd hecho hne⟩
  · rw [headerDone_of_not_matches b (hmatch.not.2 hecho)] at hrun
    exact ⟨_, hrun, ht.received, ht.events_close,
      fun heq => absurd heq hecho, fun _ => ⟨rfl, rfl⟩⟩

/-! ### The trailer (R110, R111) -/

/-- The bytes before the trailer `f` have been taken. -/
structure BeforeTrailer (s : State) (f : List Byte) (decl : BitVec 8) (t : State) : Prop
    extends Taken s f t where
  st : t.st = .awaitingChecksum
  decl : t.decl = decl

/-- The state in which the second trailer byte meets the first one, `lo`. -/
def trailerLatched (t : State) (lo : Byte) : State :=
  { t with rxCs := halfOf (hi8 t.rxCs) lo, csIdx := true, cmdErr := .ok }

theorem lo8_halfOf (hi lo : Byte) : lo8 (halfOf hi lo) = lo := by
  rw [lo8, halfOf, BitVec.extractLsb'_append_eq_of_add_le (by omega), BitVec.extractLsb'_eq_self]

theorem receive_trailer {s t : State} {f : List Byte} {d : BitVec 8} (h : BeforeTrailer s f d t)
    (lo hi : Byte) : receive [lo, hi] t = .next ((trailerLatched t lo).rxTrailer hi) := by
  have hfirst : exec (.rxByte lo) t = .next (trailerLatched t lo) := by
    rw [exec_rxByte_of_awaitingChecksum lo h.st, rxTrailer_of_first h.csIdx]
    rfl
  rw [receive_cons hfirst,
    receive_cons (exec_rxByte_of_awaitingChecksum (s := trailerLatched t lo) hi h.st), receive_nil]

theorem hi8_halfOf (hi lo : Byte) : hi8 (halfOf hi lo) = hi := by
  rw [hi8, halfOf, BitVec.extractLsb'_append_eq_of_le (by omega), BitVec.extractLsb'_eq_self]

theorem halfOf_hi8_lo8 (v : BitVec 16) : halfOf (hi8 v) (lo8 v) = v := by
  rw [halfOf, hi8, lo8, BitVec.extractLsb'_append_extractLsb'_eq_extractLsb' (by omega),
    BitVec.extractLsb'_eq_self]

/-- Two bytes are a checksum in wire order when they are its halves. -/
theorem trailerBytes_eq_iff {v : BitVec 16} {lo hi : Byte} :
    [lo, hi] = [lo8 v, hi8 v] ↔ halfOf hi lo = v := by
  constructor
  · intro h
    cases h
    exact halfOf_hi8_lo8 v
  · rintro rfl
    rw [lo8_halfOf, hi8_halfOf]

/-- A trailer that is the checksum leads to the decode check, with the trailer recorded. -/
theorem receive_checksum {s t : State} {f : List Byte} {d : BitVec 8} (h : BeforeTrailer s f d t) :
    receive [lo8 (crc16 f), hi8 (crc16 f)] t =
      .next (trailerMatched (trailerLatched t (lo8 (crc16 f)))).runDecodeCheck := by
  have heq : halfOf (hi8 (crc16 f)) (lo8 (trailerLatched t (lo8 (crc16 f))).rxCs) =
      (trailerLatched t (lo8 (crc16 f))).chkCrc := by
    rw [trailerLatched, lo8_halfOf, trailerBytes_eq_iff.1 rfl, h.crc]
  rw [receive_trailer h, rxTrailer_of_eq rfl heq]
  rfl

theorem receive_wrong_checksum {s t : State} {f : List Byte} {d : BitVec 8} {lo hi : Byte}
    (h : BeforeTrailer s f d t) (hne : [lo, hi] ≠ [lo8 (crc16 f), hi8 (crc16 f)]) :
    ∃ u, receive [lo, hi] t = .next u ∧ u.st = .failed ∧ u.errKind = .checksum ∧
      u.received = f ∧ u.events = s.events ++ [.close] := by
  have hne' : halfOf hi (lo8 (trailerLatched t lo).rxCs) ≠ (trailerLatched t lo).chkCrc := by
    rw [trailerLatched, lo8_halfOf, h.crc]
    exact mt trailerBytes_eq_iff.2 hne
  have hrun := receive_trailer h lo hi
  rw [rxTrailer_of_ne rfl hne'] at hrun
  exact ⟨_, hrun, rfl, rfl, h.received, h.events_close⟩

/-! ### A register read (R65) -/

theorem receive_readBody {s t : State} {bs body : List Byte} (h : Taken s bs t)
    (hst : t.st = .awaitingBody) (hr : isRead s.txn = true)
    (hrem : t.bodyRem.toNat = body.length) (hbody : body ≠ [])
    (hroom : bs.length + body.length ≤ s.cfg.rxbufCap) :
    ∃ u, receive body t = .next u ∧ BeforeTrailer s (bs ++ body) t.decl u := by
  induction body generalizing bs t with
  | nil => contradiction
  | cons b body ih =>
    rw [List.length_cons] at hrem hroom
    have hexec : exec (.rxByte b) t = .next (t.rxReadBody b) := by
      rw [exec_rxByte_of_awaitingBody b hst, rxBody_of_isRead (h.txn ▸ hr)]
    have htaken : Taken s (bs ++ [b]) (t.rxReadBody b) :=
      { taken_acceptByte h (by omega) b with }
    rw [receive_cons hexec, List.append_cons]
    have hst' := congrArg State.st (rxReadBody_eq hst b)
    by_cases hlast : body = []
    · have hone : t.bodyRem = 1#8 := BitVec.eq_of_toNat_eq (by rw [hrem, hlast]; rfl)
      rw [hlast, List.append_nil]
      exact ⟨_, rfl, { htaken with st := hst'.trans (if_pos hone), decl := rfl }⟩
    · have hne : t.bodyRem ≠ 1#8 := fun hone => by
        rw [hone] at hrem
        exact hlast (List.length_eq_zero_iff.1 (Nat.succ.inj hrem).symm)
      refine ih htaken (hst'.trans (if_neg hne)) ?_ hlast ?_
      · have hsub := toNat_sub_one (x := t.bodyRem) fun hz => by rw [hz] at hrem; cases hrem
        change (t.bodyRem - 1#8).toNat = body.length
        omega
      · rw [List.length_append, List.length_singleton]
        omega

theorem headerMatches_of_isRead {t : Txn} {txBuf : Vector Byte 8} {bs : List Byte}
    (h : isRead t = true) : HeaderMatches t txBuf bs ↔ bs.take 2 = [0x01#8, 0x03#8] := by
  cases t with
  | pwrState | regs | batt | warn => rfl
  | devinfo | pwrOn | pwrOff => cases h

theorem expLen_bounds {t : Txn} (h : isRead t = true) : 0 < expLen t ∧ expLen t ≤ 86 := by
  cases t with
  | pwrState | regs | batt | warn => decide
  | devinfo | pwrOn | pwrOff => cases h

/-- A body's length fits the byte that declares it. -/
theorem expLen_byte {t : Txn} (h : isRead t = true) :
    (BitVec.ofNat 8 (expLen t)).toNat = expLen t := by
  have hle := (expLen_bounds h).2
  exact Nat.mod_eq_of_lt (show expLen t < 2 ^ 8 by omega)

/-- The header and the body of a read response lead to its trailer. -/
theorem receive_readResponse {s : State} (hs : AtFirstByte s) (hr : isRead s.txn = true)
    {body : List Byte} {n : Byte} (hn : n.toNat = expLen s.txn)
    (hbody : body.length = expLen s.txn) :
    ∃ t, receive ([0x01#8, 0x03#8, n] ++ body) s = .next t ∧
      BeforeTrailer s ([0x01#8, 0x03#8, n] ++ body) n t := by
  obtain ⟨hpos, hle⟩ := expLen_bounds hr
  have hcap := (rxbufCap_bounds s.cfg).1
  obtain ⟨t, hrun, ht⟩ :=
    receive_whole_header hs (bs := [0x01#8, 0x03#8]) n (hdrLen_of_isRead hr).symm
  have hr' : isRead t.txn = true := ht.txn ▸ hr
  rw [headerDone_of_isRead _ ((headerMatches_of_isRead hr').2 rfl) hr'] at hrun
  have hne : n ≠ 0#8 := fun hz => by
    rw [hz] at hn
    exact hpos.ne hn
  have hnil : body ≠ [] := fun hnil => by
    rw [hnil] at hbody
    exact hpos.ne hbody
  obtain ⟨u, hrun', hu⟩ := receive_readBody
    (t := { t with decl := n, bodyRem := n, st := stateAfterCount n, cmdErr := .ok }) { ht with }
    (if_neg hne) hr (hn.trans hbody.symm) hnil (show 3 + body.length ≤ s.cfg.rxbufCap by omega)
  exact ⟨u, (receive_append hrun body).trans hrun', hu⟩

/-- Settles O58: the body of the expected length passes the decode check, so the trailer alone decides. -/
theorem readResponseCompletesWithItsChecksumOnly :
    Obligations.ReadResponseCompletesWithItsChecksumOnly := by
  rintro s body f hs hr hbody rfl
  obtain ⟨t, hrun, ht⟩ := receive_readResponse hs hr (expLen_byte hr) hbody
  refine ⟨?complete, fun lo hi hne => ?mismatch⟩
  case complete =>
    have hlen : t.decl.toNat = expLen s.txn := by rw [ht.decl, expLen_byte hr]
    have hcheck : decodeCheck t = none := by
      rw [decodeCheck_of_isRead ht.ovf (ht.txn ▸ hr), if_pos (ht.txn ▸ hlen)]
    have hdone := (receive_append hrun _).trans (receive_checksum ht)
    rw [runDecodeCheck_of_none (s := trailerMatched (trailerLatched t _)) hcheck] at hdone
    exact ⟨_, hdone, rfl, ht.received, hlen, ht.events_close⟩
  case mismatch =>
    obtain ⟨u, hrun', hu⟩ := receive_wrong_checksum ht hne
    exact ⟨u, (receive_append hrun _).trans hrun', hu⟩

/-! ### The objects of an identity body (R109) -/

/-- The bytes `bs` have been taken, the last one an object's or the header's, and `n` objects are to come. -/
structure BetweenObjects (s : State) (bs : List Byte) (d : BitVec 8) (n : Nat) (t : State) : Prop
    extends Taken s bs t where
  decl : t.decl = d
  tlvPh : t.tlvPh = .id
  objRem : t.objRem.toNat = n
  st : t.st = if n = 0 then .awaitingChecksum else .awaitingBody

/-- The bytes of an object (30_encoding.md R67). -/
def objectBytes (o : Byte × List Byte) : List Byte := o.1 :: BitVec.ofNat 8 o.2.length :: o.2

theorem identityBody_cons (o : Byte × List Byte) (objs : List (Byte × List Byte)) :
    identityBody (o :: objs) = objectBytes o ++ identityBody objs :=
  List.flatMap_cons

theorem exec_rxByte_of_identityBody {s t : State} {bs : List Byte} (h : Taken s bs t)
    (ht : s.txn = .devinfo) (hst : t.st = .awaitingBody) (b : Byte) :
    exec (.rxByte b) t = .next { (t.acceptByte b).tlvWalk b with cmdErr := .ok } := by
  rw [exec_rxByte_of_awaitingBody b hst, rxBody_of_devinfo (h.txn.trans ht)]
  rfl

theorem betweenObjects_objectDone {s t : State} {bs : List Byte} {n : Nat} (h : Taken s bs t)
    (hst : t.st = .awaitingBody) (hrem : t.objRem.toNat = n + 1) :
    BetweenObjects s bs t.decl n { t.objectDone with cmdErr := .ok } := by
  have hne : t.objRem ≠ 0#8 := fun hz => by rw [hz] at hrem; cases hrem
  have hsub := toNat_sub_one hne
  have hone : t.objRem = 1#8 ↔ n = 0 := by
    rw [← BitVec.toNat_inj, hrem]
    exact Nat.succ_inj
  rw [objectDone_eq hst]
  refine { h with decl := rfl, tlvPh := rfl, objRem := ?_, st := ?_ }
  · change (t.objRem - 1#8).toNat = n
    omega
  · simp only [hone]

/-- The value of an object, up to its last byte. -/
theorem receive_value {s t : State} {bs value : List Byte} {n : Nat} (h : Taken s bs t)
    (ht : s.txn = .devinfo) (hst : t.st = .awaitingBody) (hph : t.tlvPh = .val)
    (hval : t.valRem.toNat = value.length) (hvalue : value ≠ []) (hrem : t.objRem.toNat = n + 1)
    (hroom : bs.length + value.length ≤ s.cfg.rxbufCap) :
    ∃ u, receive value t = .next u ∧ BetweenObjects s (bs ++ value) t.decl n u := by
  induction value generalizing bs t with
  | nil => contradiction
  | cons b value ih =>
    rw [List.length_cons] at hval hroom
    have htaken := taken_acceptByte h (by omega) b
    have hexec := exec_rxByte_of_identityBody h ht hst b
    by_cases hlast : value = []
    · have hone : t.valRem = 1#8 := BitVec.eq_of_toNat_eq (by rw [hval, hlast]; rfl)
      rw [tlvWalk_of_val_last (s := t.acceptByte b) hph hone] at hexec
      rw [receive_cons hexec, hlast]
      exact ⟨_, rfl,
        betweenObjects_objectDone (t := { t.acceptByte b with valRem := 0#8 }) { htaken with }
          hst hrem⟩
    · have hne : t.valRem ≠ 1#8 := fun hone => by
        rw [hone] at hval
        exact hlast (List.length_eq_zero_iff.1 (Nat.succ.inj hval).symm)
      have hsub := toNat_sub_one (x := t.valRem) fun hz => by rw [hz] at hval; cases hval
      rw [tlvWalk_of_val (s := t.acceptByte b) hph hne] at hexec
      rw [receive_cons hexec, List.append_cons]
      refine ih { htaken with } hst hph ?_ hlast hrem ?_
      · change (t.valRem - 1#8).toNat = value.length
        omega
      · rw [List.length_append, List.length_singleton]
        omega

/-- The id of an object has been taken, and `n` objects are to come behind it. -/
structure AfterId (s : State) (bs : List Byte) (d : BitVec 8) (n : Nat) (t : State) : Prop
    extends Taken s bs t where
  decl : t.decl = d
  tlvPh : t.tlvPh = .len
  objRem : t.objRem.toNat = n + 1
  st : t.st = .awaitingBody

theorem receive_id {s t : State} {bs : List Byte} {d : BitVec 8} {n : Nat}
    (h : BetweenObjects s bs d (n + 1) t) (ht : s.txn = .devinfo)
    (hroom : bs.length < s.cfg.rxbufCap) (id : Byte) :
    ∃ u, exec (.rxByte id) t = .next u ∧ AfterId s (bs ++ [id]) d n u := by
  have hst : t.st = .awaitingBody := h.st.trans (if_neg n.succ_ne_zero)
  have htaken := taken_acceptByte h.toTaken hroom id
  have hexec := exec_rxByte_of_identityBody h.toTaken ht hst id
  rw [tlvWalk_of_id (s := t.acceptByte id) h.tlvPh] at hexec
  exact ⟨_, hexec, { htaken with decl := h.decl, tlvPh := rfl, objRem := h.objRem, st := hst }⟩

/-- An object's length and its value; an empty one ends with its length. -/
theorem receive_length_value {s t : State} {bs value : List Byte} {d : BitVec 8} {n : Nat}
    (h : AfterId s bs d n t) (ht : s.txn = .devinfo) (hlen : value.length ≤ 255)
    (hroom : bs.length + (value.length + 1) ≤ s.cfg.rxbufCap) :
    ∃ u, receive (BitVec.ofNat 8 value.length :: value) t = .next u ∧
      BetweenObjects s (bs ++ BitVec.ofNat 8 value.length :: value) d n u := by
  have hcount : (BitVec.ofNat 8 value.length).toNat = value.length :=
    Nat.mod_eq_of_lt (show value.length < 2 ^ 8 from Nat.lt_succ_of_le hlen)
  have htaken := taken_acceptByte h.toTaken (by omega) (BitVec.ofNat 8 value.length)
  have hexec := exec_rxByte_of_identityBody h.toTaken ht h.st (BitVec.ofNat 8 value.length)
  have hzero : BitVec.ofNat 8 value.length = 0#8 ↔ value = [] := by
    rw [← BitVec.toNat_inj, hcount]
    exact List.length_eq_zero_iff
  rw [List.append_cons, ← h.decl]
  by_cases hnil : value = []
  · rw [tlvWalk_of_len_zero (s := State.acceptByte _ _) h.tlvPh (hzero.2 hnil)] at hexec
    have hdone := betweenObjects_objectDone htaken h.st h.objRem
    refine ⟨_, (receive_cons hexec value).trans (by rw [hnil, receive_nil]), ?_⟩
    rw [hnil] at hdone ⊢
    rw [List.append_nil]
    exact hdone
  · rw [tlvWalk_of_len (s := State.acceptByte _ _) h.tlvPh (hzero.not.2 hnil)] at hexec
    rw [receive_cons hexec]
    refine receive_value { htaken with } ht h.st rfl hcount hnil h.objRem ?_
    rw [List.length_append, List.length_singleton]
    omega

theorem receive_object {s t : State} {bs : List Byte} {d : BitVec 8} {n : Nat}
    {o : Byte × List Byte} (h : BetweenObjects s bs d (n + 1) t) (ht : s.txn = .devinfo)
    (ho : o.2.length ≤ 255) (hroom : bs.length + (objectBytes o).length ≤ s.cfg.rxbufCap) :
    ∃ u, receive (objectBytes o) t = .next u ∧ BetweenObjects s (bs ++ objectBytes o) d n u := by
  change bs.length + (o.2.length + 1 + 1) ≤ s.cfg.rxbufCap at hroom
  obtain ⟨u, hexec, hu⟩ := receive_id h ht (by omega) o.1
  rw [objectBytes, receive_cons hexec, List.append_cons]
  refine receive_length_value hu ht ho ?_
  rw [List.length_append, List.length_singleton]
  omega

theorem receive_objects {s t : State} {bs : List Byte} {d : BitVec 8}
    {objs : List (Byte × List Byte)} (h : BetweenObjects s bs d objs.length t)
    (ht : s.txn = .devinfo) (ho : ∀ o ∈ objs, o.2.length ≤ 255)
    (hroom : bs.length + (identityBody objs).length ≤ s.cfg.rxbufCap) :
    ∃ u, receive (identityBody objs) t = .next u ∧
      BetweenObjects s (bs ++ identityBody objs) d 0 u := by
  induction objs generalizing bs t with
  | nil => exact ⟨t, rfl, by rw [show identityBody [] = [] from rfl, List.append_nil]; exact h⟩
  | cons o objs ih =>
    rw [identityBody_cons, List.length_append] at hroom
    obtain ⟨ho, hobjs⟩ := List.forall_mem_cons.1 ho
    obtain ⟨u, hrun, hu⟩ := receive_object h ht ho (by omega)
    obtain ⟨v, hrun', hv⟩ := ih hu hobjs (by rw [List.length_append]; omega)
    rw [identityBody_cons, ← List.append_assoc]
    exact ⟨v, (receive_append hrun _).trans hrun', hv⟩

/-- The header of an identity response leads to its objects (R64). -/
theorem receive_identityHeader {s : State} (hs : AtFirstByte s) (ht : s.txn = .devinfo)
    (x y b : Byte) :
    ∃ t, receive [0x01#8, 0x2B#8, 0x0E#8, 0x03#8, 0x03#8, x, y, b] s = .next t ∧
      BetweenObjects s [0x01#8, 0x2B#8, 0x0E#8, 0x03#8, 0x03#8, x, y, b] b b.toNat t := by
  obtain ⟨t, hrun, htaken⟩ := receive_whole_header hs
    (bs := [0x01#8, 0x2B#8, 0x0E#8, 0x03#8, 0x03#8, x, y]) b (by rw [ht]; rfl)
  have ht' : t.txn = .devinfo := htaken.txn.trans ht
  have hmatch : HeaderMatches t.txn t.txBuf
      ([0x01#8, 0x2B#8, 0x0E#8, 0x03#8, 0x03#8, x, y] ++ [b]) := by
    rw [ht']
    rfl
  rw [headerDone_of_devinfo b hmatch ht'] at hrun
  refine ⟨_, hrun, { htaken with decl := rfl, tlvPh := rfl, objRem := rfl, st := ?_ }⟩
  have hzero : b = 0#8 ↔ b.toNat = 0 := BitVec.toNat_inj.symm
  simp only [stateAfterCount, hzero]

/-! ### The objects taken apart (R118) -/

theorem bytes_append (m : Memory) (i a b : Nat) :
    m.bytes i (a + b) = m.bytes i a ++ m.bytes (i + a) b := by
  induction a generalizing i with
  | zero => rw [Nat.zero_add, Memory.bytes_zero, List.nil_append, Nat.add_zero]
  | succ a ih =>
    rw [Nat.add_right_comm, Memory.bytes_succ, ih, Memory.bytes_succ, List.cons_append,
      Nat.add_right_comm, Nat.add_assoc]

/-- A stretch of bytes is cut where a list of them is. -/
theorem bytes_eq_append_iff {m : Memory} {i : Nat} {as bs : List Byte} :
    m.bytes i (as ++ bs).length = as ++ bs ↔
      m.bytes i as.length = as ∧ m.bytes (i + as.length) bs.length = bs := by
  rw [List.length_append, bytes_append]
  constructor
  · exact fun h => List.append_inj h (Memory.bytes_length _ _ _)
  · rintro ⟨h, h'⟩
    rw [h, h']

/-- An object's bytes are its id, its length and its value. -/
theorem bytes_eq_objectBytes_iff {m : Memory} {p : Nat} {id : Byte} {value : List Byte} :
    m.bytes p (objectBytes (id, value)).length = objectBytes (id, value) ↔
      m.read p = id ∧ m.read (p + 1) = BitVec.ofNat 8 value.length ∧
        m.bytes (p + 2) value.length = value := by
  simp [objectBytes, Memory.bytes_succ]

/-- Where the objects' bytes lie, the walk finds the objects. -/
theorem objectsFrom_of_bytes {m : Memory} {p : Nat} {objs : List (Byte × List Byte)}
    (ho : ∀ o ∈ objs, o.2.length ≤ 255)
    (h : m.bytes p (identityBody objs).length = identityBody objs) :
    (objectsFrom m p objs.length).map (fun o => (o.id, m.bytes o.value.start o.value.len)) =
      objs := by
  induction objs generalizing p with
  | nil => rfl
  | cons o objs ih =>
    obtain ⟨id, value⟩ := o
    obtain ⟨hlen, hobjs⟩ := List.forall_mem_cons.1 ho
    rw [identityBody_cons, bytes_eq_append_iff] at h
    obtain ⟨hobj, hrest⟩ := h
    change value.length ≤ 255 at hlen
    obtain ⟨hid, hcount, hvalue⟩ := bytes_eq_objectBytes_iff.1 hobj
    have hcount' : (m.read (p + 1)).toNat = value.length := by
      rw [hcount]
      exact Nat.mod_eq_of_lt (show value.length < 2 ^ 8 from Nat.lt_succ_of_le hlen)
    have hnext : p + (objectBytes (id, value)).length = p + 2 + value.length :=
      (congrArg (p + ·) (Nat.add_comm value.length 2)).trans (Nat.add_assoc p 2 _).symm
    rw [hnext] at hrest
    rw [List.length_cons, objectsFrom_succ, hcount', List.map_cons, ih hobjs hrest, hid, hvalue]

/-! ### A whole identity response (R64, R67) -/

theorem runDecodeCheck_keeps (s : State) :
    s.runDecodeCheck.rxBuf = s.rxBuf ∧ s.runDecodeCheck.decl = s.decl ∧
      s.runDecodeCheck.received = s.received ∧ s.runDecodeCheck.events = s.events ++ [.close] := by
  obtain ⟨-, hcheck⟩ | ⟨_, -, hcheck⟩ := runDecodeCheck_cases s <;> rw [hcheck] <;>
    exact ⟨rfl, rfl, rfl, rfl⟩

/-- The decode check of an identity transaction by its objects (R117). -/
theorem runDecodeCheck_of_devinfo {s : State} (hovf : s.ovf = false) (ht : s.txn = .devinfo) :
    ((∀ o ∈ objects s.rxBuf s.decl, ObjectOk s.rxBuf o) → s.runDecodeCheck.st = .complete) ∧
    ((∃ o ∈ objects s.rxBuf s.decl, ¬ ObjectOk s.rxBuf o) →
      s.runDecodeCheck.st = .failed ∧ s.runDecodeCheck.errKind = .decode) := by
  constructor
  · intro hall
    rw [runDecodeCheck_of_none (decodeCheck_of_all_ok hovf ht hall)]
    rfl
  · rintro ⟨o, ho, hbad⟩
    obtain ⟨hnone, -⟩ | ⟨c, -, hfail⟩ := runDecodeCheck_cases s
    · rw [decodeCheck_of_devinfo hovf ht, List.findSome?_eq_none_iff] at hnone
      exact absurd (objectFault_eq_none_iff.1 (hnone o ho)) hbad
    · rw [hfail]
      exact ⟨rfl, rfl⟩

/-- The header and the objects of an identity response lead to its trailer. -/
theorem receive_identityResponse {s : State} (hs : AtFirstByte s) (ht : s.txn = .devinfo)
    {x y b : Byte} {objs : List (Byte × List Byte)} (hb : b.toNat = objs.length)
    (ho : ∀ o ∈ objs, o.2.length ≤ 255)
    (hroom : 8 + (identityBody objs).length ≤ s.cfg.rxbufCap) :
    ∃ t, receive ([0x01#8, 0x2B#8, 0x0E#8, 0x03#8, 0x03#8, x, y, b] ++ identityBody objs) s =
        .next t ∧
      BeforeTrailer s ([0x01#8, 0x2B#8, 0x0E#8, 0x03#8, 0x03#8, x, y, b] ++ identityBody objs)
        b t := by
  obtain ⟨t, hrun, hheader⟩ := receive_identityHeader hs ht x y b
  rw [hb] at hheader
  obtain ⟨u, hrun', hu⟩ := receive_objects hheader ht ho hroom
  exact ⟨u, (receive_append hrun _).trans hrun', { hu.toTaken with st := hu.st, decl := hu.decl }⟩

/-- Settles O60: the bytes received are the header and the objects' bytes, in which the walk finds the
objects again, and the decode check goes over these. -/
theorem identityResponseIsTakenApartIntoItsObjects :
    Obligations.IdentityResponseIsTakenApartIntoItsObjects := by
  rintro s x y objs f hs ht hcount ho rfl hroom
  have hb : (BitVec.ofNat 8 objs.length).toNat = objs.length :=
    Nat.mod_eq_of_lt (show objs.length < 2 ^ 8 from Nat.lt_succ_of_le hcount)
  rw [List.length_append] at hroom
  obtain ⟨t, hrun, hbefore⟩ := receive_identityResponse hs ht hb ho hroom
  have hdone := (receive_append hrun _).trans (receive_checksum hbefore)
  obtain ⟨hbuf, hdecl, hreceived, hevents⟩ := runDecodeCheck_keeps
    (trailerMatched (trailerLatched t _))
  refine ⟨_, hdone, hreceived.trans hbefore.received, ?objects,
    hevents.trans hbefore.events_close, ?verdict⟩
  case objects =>
    have hbytes := hbefore.received
    rw [State.received, hbefore.length, bytes_eq_append_iff] at hbytes
    rw [hbuf, hdecl]
    change (objectsFrom t.rxBuf 8 t.decl.toNat).map
      (fun o => (o.id, t.rxBuf.bytes o.value.start o.value.len)) = objs
    rw [hbefore.decl, hb]
    exact objectsFrom_of_bytes ho hbytes.2
  case verdict =>
    rw [hbuf, hdecl]
    exact runDecodeCheck_of_devinfo hbefore.ovf (hbefore.txn.trans ht)

end Sys2Proof.Proofs.Responses
